-- ==== Sys2Proof/Word.lean ====
section
/-! DEFINITION. The widths of the block's values (00_scope R9: every quantity is unsigned), and the words
the rows of the opcode table encode. -/

namespace Sys2Proof

/-- A byte of a frame or an 8-bit register (R9). -/
abbrev Byte := BitVec 8

/-- The 16-bit value of a register, and of `wdata` and `rdata` (R21, R65). -/
abbrev Word := BitVec 16

/-- A host register address, `addr[11:0]` (R65, R70). -/
abbrev Addr := BitVec 12

/-- The words of the opcode table, one constructor per format of the table. -/
inductive CmdWord where
  /-- Format CMD16: the 16-bit value written to CMD (R100). -/
  | cmd16 (v : BitVec 16)
  /-- Format FRAME_CMD8: the frame's command byte, the value the host places in ENC_CMD (R110). -/
  | frameCmd8 (b : BitVec 8)
deriving DecidableEq, Repr

end Sys2Proof
end

