-- ==== Sys2Proof/Config.lean ====
section
/-! DEFINITION. What an implementation fixes (the parameters of 00_scope R8), the events by which the agents
act on the block (R7, R14), and the free values of the model: the environment's next event, and `tx_data` while
it is not valid. -/

namespace Sys2Proof

/-- The implementation parameters of R8 that a model takes (93 E7). They never change (R35, R36). -/
structure Params where
  /-- `MAX_DATA`: the largest DATA length, 0 to 248. -/
  maxData : Nat
  /-- `RXBUF_LEN`: the capacity of the receive buffer, `7 + MAX_DATA` to 3072. -/
  rxbufLen : Nat
deriving DecidableEq, Repr

/-- The values R8 gives: MAX_DATA 29, RXBUF_LEN 256. -/
def Params.default : Params := { maxData := 29, rxbufLen := 256 }

/-- `TXBUF_LEN = 7 + MAX_DATA` (R8, R45). -/
def Params.txbufLen (p : Params) : Nat := 7 + p.maxData

/-- The events of R14: one atomic step of an agent of R7. -/
inductive Event where
  /-- A host read strobe at `addr` (R65, R73). -/
  | hostRead (addr : Addr)
  /-- A host write strobe of `v` at `addr` (R65, R73). -/
  | hostWrite (addr : Addr) (v : Word)
  /-- TICK: one millisecond has passed (R201). -/
  | tick
  /-- RX(b): the byte `b` has been received from the line (R198). -/
  | rx (b : Byte)
  /-- TXACCEPT: the Transport Port takes the offered byte (R194). -/
  | txAccept
  /-- TXDRAIN: the last byte's stop bit has left the line (R195). -/
  | txDrain
  /-- RESET (R300). -/
  | reset
deriving DecidableEq, Repr, Inhabited

namespace Config

/-- `QUIET_MIN` and `QUIET_MAX`: the legal range of QUIET_MS (R8, R30). -/
def quietMin : Word := 40
def quietMax : Word := 150

/-- `IFD_MIN` and `IFD_MAX`: the legal range of IFD_MS (R8, R31). -/
def ifdMin : Word := 30
def ifdMax : Word := 150

/-- FREE VALUE (93 E1 to E4: any value, every interleaving allowed): the event the environment chooses
when none is pending. It has no body: nothing about it can be proved. DESIGN CHOICE, log 3. -/
opaque freeEvent : Nat → Event

/-- FREE VALUE (R65 gives `tx_data` a value only while it is valid): what `tx_data` shows while it is not,
by TX_IDX. It has no body: nothing about it can be proved. DESIGN CHOICE, log 13. -/
opaque idleTxData : Word → Byte

end Config

end Sys2Proof
end

