-- ==== Sys2Proof/Syntax.lean ====
section
/-! DEFINITION. The instructions: one constructor per row of spec/opcode_table.json. No row has an operand
field (R100: no immediate fields, register-number fields or mode bits; R113: every operand is a register). -/

namespace Sys2Proof

inductive Instr where
  /-- NOP, CMD value 0x0000 (R203). -/
  | nop
  /-- ENCODE, CMD value 0x0001 (R143). -/
  | encode
  /-- DECODE, CMD value 0x0002 (R146). -/
  | decode
  /-- TRANSMIT, CMD value 0x0003 (R191). -/
  | transmit
  /-- LISTEN, CMD value 0x0004 (R196). -/
  | listen
  /-- CANCEL, CMD value 0x0005 (R202). -/
  | cancel
  /-- FRAME_TAKEOVER, frame command byte 0x00 (R110). -/
  | frameTakeover
  /-- FRAME_SET_OUTPUT, frame command byte 0x11 (R110). -/
  | frameSetOutput
  /-- FRAME_READ_SALINITY, frame command byte 0x12 (R110). -/
  | frameReadSalinity
  /-- FRAME_GET_VERSION, frame command byte 0x14 (R110). -/
  | frameGetVersion
  /-- FRAME_GET_TEMPERATURE, frame command byte 0x15 (R110). -/
  | frameGetTemperature
deriving DecidableEq, Repr

end Sys2Proof
end

