-- ==== Sys2Proof/WellFormed.lean ====
section
/-! DEFINITION. The checks of the syntax: which words of the opcode table's formats are defined encodings,
and which parameters are legal. An `Instr` has no operand, so every term of it is well formed (R100). -/

namespace Sys2Proof

/-- R100: `RSV` = bits [15:4] must be zero. -/
def rsvOk (v : Word) : Bool := v.extractLsb' 4 12 == 0

/-- R101: `OP` = bits [3:0] is one of 0x0 to 0x5. -/
def opOk (v : Word) : Bool := decide ((v.extractLsb' 0 4).toNat < 6)

/-- R110: the five known frame command bytes. -/
def frameCmdOk (b : Byte) : Bool := b ∈ [0x00#8, 0x11#8, 0x12#8, 0x14#8, 0x15#8]

/-- A word that is a defined encoding of the table. -/
def CmdWord.wf : CmdWord → Bool
  | .cmd16 v => rsvOk v && opOk v
  | .frameCmd8 b => frameCmdOk b

/-- R8: the legal range of the parameter MAX_DATA. -/
def Params.maxDataOk (p : Params) : Bool := decide (p.maxData ≤ 248)

/-- R8: the legal range of the parameter RXBUF_LEN. -/
def Params.rxbufLenOk (p : Params) : Bool := decide (7 + p.maxData ≤ p.rxbufLen) && decide (p.rxbufLen ≤ 3072)

/-- The legal parameters of R8. -/
def Params.legal (p : Params) : Bool := p.maxDataOk && p.rxbufLenOk

end Sys2Proof
end

