-- ==== Sys2Proof/Decode.lean ====
section
/-! DEFINITION. The decoder of the opcode table's words (30_encoding R100 to R103, R110), total and rejecting
by name, and the encoder written from the same table. The block fetches no instruction (R63): a CMD16 word
is what the host writes to CMD, a FRAME_CMD8 byte what it writes to ENC_CMD (log 5). A word is handed over
whole, so it has no byte order (R73, R78). -/

namespace Sys2Proof

/-- Why a word is no instruction. -/
inductive DecodeError where
  /-- `v[15:4] ≠ 0` (R102). The block answers such a CMD write ILLEGAL_OP. -/
  | reservedBits (v : Word)
  /-- `OP` is 0x6 to 0xF (R102). The block answers such a CMD write ILLEGAL_OP. -/
  | reservedOperation (v : Word)
  /-- A byte that is none of R110's frame commands. The block stores it in ENC_CMD all the same (R42). -/
  | unknownFrameCommand (b : Byte)
  /-- No format of the table has this many bits, or the value does not fit in them. -/
  | noSuchFormat (nbits w : Nat)
deriving DecidableEq, Repr

/-- `OP` = bits [3:0] of a CMD value (R100). -/
def opField (v : Word) : BitVec 4 := v.extractLsb' 0 4

/-- `RSV` = bits [15:4] of a CMD value (R100). -/
def rsvField (v : Word) : BitVec 12 := v.extractLsb' 4 12

/-- The operation codes of R101, and the rejections of R102. -/
def decodeCmd16 (v : Word) : Except DecodeError Instr :=
  if rsvField v ≠ 0 then .error (.reservedBits v)
  else if opField v = 0x0#4 then .ok .nop
  else if opField v = 0x1#4 then .ok .encode
  else if opField v = 0x2#4 then .ok .decode
  else if opField v = 0x3#4 then .ok .transmit
  else if opField v = 0x4#4 then .ok .listen
  else if opField v = 0x5#4 then .ok .cancel
  else .error (.reservedOperation v)

/-- The known frame command bytes of R110. -/
def decodeFrameCmd8 (b : Byte) : Except DecodeError Instr :=
  if b = 0x00#8 then .ok .frameTakeover
  else if b = 0x11#8 then .ok .frameSetOutput
  else if b = 0x12#8 then .ok .frameReadSalinity
  else if b = 0x14#8 then .ok .frameGetVersion
  else if b = 0x15#8 then .ok .frameGetTemperature
  else .error (.unknownFrameCommand b)

/-- The decoder. -/
def decode : CmdWord → Except DecodeError Instr
  | .cmd16 v => decodeCmd16 v
  | .frameCmd8 b => decodeFrameCmd8 b

/-- The format with `nbits` bits: 16 is CMD16, 8 is FRAME_CMD8. -/
def formatWord (nbits w : Nat) : Except DecodeError CmdWord :=
  if nbits = 16 ∧ w < 2 ^ 16 then .ok (.cmd16 (BitVec.ofNat 16 w))
  else if nbits = 8 ∧ w < 2 ^ 8 then .ok (.frameCmd8 (BitVec.ofNat 8 w))
  else .error (.noSuchFormat nbits w)

/-- The decoder on `nbits` bits whose value is `w`, bit 0 the least significant (the table's numbering). -/
def decodeBits (nbits w : Nat) : Except DecodeError Instr :=
  match formatWord nbits w with
  | .ok cw => decode cw
  | .error e => .error e

/-- The host's question: the instruction the decoder reads from `nbits` bits of value `w`. -/
def decodeTableWord (nbits w : Nat) : Option Instr :=
  match decodeBits nbits w with
  | .ok i => some i
  | .error _ => none

/-- The encoder: the word of each row of the table (R101, R110). -/
def encode : Instr → CmdWord
  | .nop => .cmd16 0x0000#16
  | .encode => .cmd16 0x0001#16
  | .decode => .cmd16 0x0002#16
  | .transmit => .cmd16 0x0003#16
  | .listen => .cmd16 0x0004#16
  | .cancel => .cmd16 0x0005#16
  | .frameTakeover => .frameCmd8 0x00#8
  | .frameSetOutput => .frameCmd8 0x11#8
  | .frameReadSalinity => .frameCmd8 0x12#8
  | .frameGetVersion => .frameCmd8 0x14#8
  | .frameGetTemperature => .frameCmd8 0x15#8

end Sys2Proof
end

