-- ==== Sys2Proof/Machine/State.lean ====
section
/-! DEFINITION. The state of the block: 10_state R20 to R60, one field per register that stores something and
per internal element, and the model's own fields, marked so. Plain data. INVENTORY.md lists every field with
its rule and its reset value. -/

namespace Sys2Proof.Machine

/-- BT_STATE: the Bus Timing sequencer state (R58). -/
inductive BtState where
  | idle | wait | tx | listen
deriving DecidableEq, Repr

/-- The status codes of R104. -/
inductive Code where
  | none | ok | incomplete | checksumMismatch | invalidPayload | timeout | cancelled | busBusy | busy | illegalOp
deriving DecidableEq, Repr

/-- The decode detail codes of R105; `noDetail` is code 0. -/
inductive Detail where
  | noDetail | shortWindow | noHeader | noFooter | runt | overlong | badSum
deriving DecidableEq, Repr

/-- The decode result registers (R50 to R57), written by DECODE only. -/
structure Results where
  /-- RES_DEST, 0x020 (R50). -/
  dest : Byte
  /-- RES_CMD, 0x021 (R51). -/
  cmd : Byte
  /-- RES_DLEN, 0x022 (R52). -/
  dlen : Byte
  /-- RES_CK, 0x023 (R53). -/
  ck : Byte
  /-- RES_CALC, 0x024 (R54). -/
  calcSum : Byte
  /-- RES_START, 0x025 (R55). -/
  start : Word
  /-- RES_END, 0x026 (R56). -/
  stop : Word
  /-- RES_DATA[i], 0x300 + i, for i < MAX_DATA (R57). -/
  data : List Byte
deriving DecidableEq, Repr

/-- The state. -/
structure State where
  /-- MODEL'S OWN (log 1): the parameters of R8, constant; read as MAX_DATA_R and RXBUF_LEN_R (R35, R36). -/
  params : Params
  /-- OP_STATUS, 0x001 (R23). -/
  opStatus : Word
  /-- ENC_STATUS, 0x003 (R25). -/
  encStatus : Word
  /-- DEC_STATUS, 0x004 (R26). -/
  decStatus : Word
  /-- BT_STATUS, 0x005 (R27). -/
  btStatus : Word
  /-- IRQ_PEND, 0x006 (R28): bits TXDONE 0, RXDONE 1, OPERR 2, RXOVF 3. -/
  irqPend : Word
  /-- IRQ_EN, 0x007 (R29). -/
  irqEn : Word
  /-- QUIET_MS, 0x008 (R30). -/
  quietMs : Word
  /-- IFD_MS, 0x009 (R31). -/
  ifdMs : Word
  /-- LISTEN_MS, 0x00A (R32). -/
  listenMs : Word
  /-- BUSY_WAIT_MS, 0x00B (R33). -/
  busyWaitMs : Word
  /-- CK_SEED, 0x00C (R34). -/
  ckSeed : Byte
  /-- IDLE_MS, 0x00F (R37). -/
  idleMs : Word
  /-- IFD_ELAPSED, 0x010 (R38). -/
  ifdElapsed : Word
  /-- BT_TIMER, 0x011 (R39). -/
  btTimer : Word
  /-- TX_IDX, 0x012 (R40). -/
  txIdx : Word
  /-- ENC_DEST, 0x018 (R41). -/
  encDest : Byte
  /-- ENC_CMD, 0x019 (R42). -/
  encCmd : Byte
  /-- ENC_DLEN, 0x01A (R43). -/
  encDlen : Byte
  /-- ENC_DATA[i], 0x100 + i, for i < MAX_DATA (R44). -/
  encData : List Byte
  /-- TXBUF[i], 0x200 + i, for i < 7 + MAX_DATA (R45). -/
  txBuf : List Byte
  /-- TXLEN, 0x01B (R46). -/
  txLen : Byte
  /-- RXBUF[i], 0x400 + i, for i < RXBUF_LEN (R47). -/
  rxBuf : List Byte
  /-- RXCNT, 0x01C (R48). -/
  rxCnt : Word
  /-- DEC_OFF, 0x01D (R49). -/
  decOff : Word
  /-- RES_* (R50 to R57). -/
  res : Results
  /-- BT_STATE (R58). -/
  bt : BtState
  /-- RX_OVF (R59). -/
  rxOvf : Bool
  /-- TE, the transmit-enable output (R60). -/
  te : Bool
  /-- MODEL'S OWN (log 2): the events to come next, the earliest first. -/
  pending : List Event
  /-- MODEL'S OWN (log 3): how many events the free environment has supplied. -/
  freeIdx : Nat
  /-- MODEL'S OWN (log 6): the bytes handed to the Transport Port so far, in order (the wire of R70). -/
  wire : List Byte
  /-- MODEL'S OWN (log 6): the values host reads have returned so far, in order (`rdata` of R65). -/
  reads : List Word
deriving DecidableEq, Repr

/-- Why the machine stops with a fault: never. R260: no operation and no event traps, halts, or enters a
fault state, so this type has no constructor. DEDUCED, log 12. -/
inductive Fault where
deriving DecidableEq, Repr

/-- Why the machine refuses an instruction. The block's own refusals, BUSY and ILLEGAL_OP, are ordinary
state changes (R260) and are not among these. -/
inductive Refusal where
  /-- An instruction with no meaning yet. Raised only by an arm of `exec`; no arm raises it now. Safe. -/
  | notModelled (mnemonic : String)
deriving DecidableEq, Repr

/-- Every RES_* register 0, RES_DATA of length MAX_DATA: their reset values, and what ClearResults (R148)
leaves. -/
def Results.zero (maxData : Nat) : Results :=
  { dest := 0, cmd := 0, dlen := 0, ck := 0, calcSum := 0, start := 0, stop := 0,
    data := List.replicate maxData 0 }

/-- The block right after RESET with parameters `p` (R300 and the table of 10_state section 12), and nothing
pending, sent or read. -/
def State.resetOf (p : Params) : State :=
  { params := p
    opStatus := 0x0000, encStatus := 0x0000, decStatus := 0x0000, btStatus := 0x0000
    irqPend := 0x0000, irqEn := 0x0000
    quietMs := 50, ifdMs := 50, listenMs := 500, busyWaitMs := 1000, ckSeed := 0x00
    idleMs := 0, ifdElapsed := 0xFFFF, btTimer := 0, txIdx := 0
    encDest := 0x00, encCmd := 0x00, encDlen := 0x00, encData := List.replicate p.maxData 0
    txBuf := List.replicate (7 + p.maxData) 0, txLen := 0
    rxBuf := List.replicate p.rxbufLen 0, rxCnt := 0, decOff := 0
    res := Results.zero p.maxData
    bt := .idle, rxOvf := false, te := false
    pending := [], freeIdx := 0, wire := [], reads := [] }

/-- The machine right after reset, with the parameters' values of R8. -/
def State.reset : State := State.resetOf Params.default

end Sys2Proof.Machine
end

