-- ==== Sys2Proof/Machine/Codec.lean ====
section
/-! DEFINITION. The Frame Codec's pure functions (40_frame_codec R140 to R152, 30_encoding R106 to R109):
they hold no state and read no register. -/

namespace Sys2Proof.Machine

/-- The bytes of header and footer: `0x10 0x02` and `0x10 0x03` (R106). -/
def markByte : Byte := 0x10
def headerByte : Byte := 0x02
def footerByte : Byte := 0x03

/-- `Checksum(seed, dest, cmd, data) = (seed + dest + cmd + Σ data[i]) mod 256` (R107). -/
def checksum (seed dest cmd : Byte) (data : List Byte) : Byte :=
  BitVec.ofNat 8 (seed.toNat + dest.toNat + cmd.toNat + (data.map BitVec.toNat).sum)

/-- The candidate payload `P = DEST, CMD, DATA, checksum` of a frame (R109). -/
def payload (seed dest cmd : Byte) (data : List Byte) : List Byte :=
  [dest, cmd] ++ data ++ [checksum seed dest cmd data]

/-- `EncodeFrame(seed, dest, cmd, data)` (R142). -/
def encodeFrame (seed dest cmd : Byte) (data : List Byte) : List Byte :=
  [markByte, headerByte, dest, cmd] ++ data ++ [checksum seed dest cmd data, markByte, footerByte]

/-- The least `i` with `l[i] = a` and `l[i+1] = b`, both inside `l` (R149, R150). -/
def findPair (a b : Byte) : List Byte → Option Nat
  | x :: y :: rest => if x = a ∧ y = b then some 0 else (findPair a b (y :: rest)).map (· + 1)
  | _ => none

/-- `NotTransparent(P)`: some `0x10` in `P` is followed by `0x03` (R144, R109). -/
def notTransparent (p : List Byte) : Bool := (findPair markByte footerByte p).isSome

/-- The fields a DECODE reports (R146): those of the candidate payload, and the recomputed checksum. -/
structure Fields where
  dest : Byte
  cmd : Byte
  data : List Byte
  /-- The checksum byte as received. -/
  rck : Byte
  /-- The checksum recomputed over destination, command and data (R152). -/
  calcSum : Byte
deriving DecidableEq, Repr

/-- What DecodeWindow returns (R146): `start`, `stop` and `fields` where the rule defines them. Indices are
relative to the window. -/
structure DecodeResult where
  code : Code
  detail : Detail
  start : Option Nat
  stop : Option Nat
  fields : Option Fields
deriving DecidableEq, Repr

/-- The fields of a candidate payload of at least 3 bytes (R151, R152). -/
def payloadFields (seed : Byte) (p : List Byte) : Fields :=
  let dest := p.getD 0 0
  let cmd := p.getD 1 0
  let data := (p.drop 2).take (p.length - 3)
  { dest := dest, cmd := cmd, data := data, rck := p.getD (p.length - 1) 0,
    calcSum := checksum seed dest cmd data }

/-- The last steps of DecodeWindow: a candidate payload `p` found between the header at `h` and the footer
(R151, R152). -/
def closeFrame (seed : Byte) (maxd h : Nat) (p : List Byte) : DecodeResult :=
  let past := h + 2 + p.length + 2
  if p.length < 3 then ⟨.checksumMismatch, .runt, some h, some past, none⟩
  else if maxd < p.length - 3 then ⟨.checksumMismatch, .overlong, some h, some past, none⟩
  else
    let f := payloadFields seed p
    if f.calcSum = f.rck then ⟨.ok, .noDetail, some h, some past, some f⟩
    else ⟨.checksumMismatch, .badSum, some h, some past, some f⟩

/-- `DecodeWindow(win, seed, maxd)` (R146, with R147 for the 7-byte test, R149 for the header, R150 for the
footer, searched from just after the header). -/
def decodeWindow (win : List Byte) (seed : Byte) (maxd : Nat) : DecodeResult :=
  if win.length < 7 then ⟨.incomplete, .shortWindow, none, none, none⟩
  else
    match findPair markByte headerByte win with
    | none => ⟨.incomplete, .noHeader, none, none, none⟩
    | some h =>
      match findPair markByte footerByte (win.drop (h + 2)) with
      | none => ⟨.incomplete, .noFooter, some h, none, none⟩
      | some len => closeFrame seed maxd h ((win.drop (h + 2)).take len)

end Sys2Proof.Machine
end

