-- ==== Sys2Proof/Machine/Flags.lean ====
section
/-! DEFINITION. The status words: the codes and their fields (R23 to R27, R104, R105), the live view STATUS
(R24), and the outputs computed from the state (R61, R65). -/

namespace Sys2Proof.Machine

/-- The numbers of the status codes (R104). -/
def Code.bits : Code → BitVec 4
  | .none => 0
  | .ok => 1
  | .incomplete => 2
  | .checksumMismatch => 3
  | .invalidPayload => 4
  | .timeout => 5
  | .cancelled => 6
  | .busBusy => 7
  | .busy => 8
  | .illegalOp => 9

/-- The numbers of the decode details (R105). -/
def Detail.bits : Detail → BitVec 4
  | .noDetail => 0
  | .shortWindow => 1
  | .noHeader => 2
  | .noFooter => 3
  | .runt => 4
  | .overlong => 5
  | .badSum => 6

/-- The numbers of BT_STATE (R58). -/
def BtState.bits : BtState → BitVec 2
  | .idle => 0
  | .wait => 1
  | .tx => 2
  | .listen => 3

/-- A status register: bits [15:8] reserved 0, the second field in [7:4], CODE in [3:0] (R23 to R27). -/
def statusWord (c : Code) (field : BitVec 4) : Word := 0#8 ++ field ++ c.bits

/-- CODE, bits [3:0] of a status register. -/
def codeField (w : Word) : BitVec 4 := w.extractLsb' 0 4

/-- Bits [7:4] of a status register: OP of OP_STATUS, DETAIL of DEC_STATUS. -/
def upperField (w : Word) : BitVec 4 := w.extractLsb' 4 4

/-- A 1-bit field at bit 4, bits [7:5] reserved 0: WARN_FOOTER (R25), LAST_OP (R27). -/
def flagField (b : Bool) : BitVec 4 := 0#3 ++ BitVec.ofBool b

/-- LINE_QUIET: `IDLE_MS >= QUIET_MS` (R24). -/
def State.lineQuiet (s : State) : Bool := decide (s.quietMs ≤ s.idleMs)

/-- IFD_MET: `IFD_ELAPSED >= IFD_MS` (R24). -/
def State.ifdMet (s : State) : Bool := decide (s.ifdMs ≤ s.ifdElapsed)

/-- STATUS (R24): stores nothing; reserved [15:6], then RX_OVF, IFD_MET, LINE_QUIET, TE, BT_STATE [1:0]. -/
def State.statusView (s : State) : Word :=
  0#10 ++ BitVec.ofBool s.rxOvf ++ BitVec.ofBool s.ifdMet ++ BitVec.ofBool s.lineQuiet
    ++ BitVec.ofBool s.te ++ s.bt.bits

/-- The bits of IRQ_PEND and IRQ_EN (R28, R263). -/
def irqTxDone : Word := 0x0001
def irqRxDone : Word := 0x0002
def irqOpErr : Word := 0x0004
def irqRxOvf : Word := 0x0008

/-- The implemented bits [3:0] of IRQ_PEND and IRQ_EN; the others read 0 and ignore writes (R21, R28, R29). -/
def irqMask : Word := 0x000F

/-- The `irq` output (R61, R264): a level, `(IRQ_PEND & IRQ_EN)[3:0] ≠ 0`. -/
def State.irq (s : State) : Bool := decide (s.irqPend &&& s.irqEn &&& irqMask ≠ 0)

/-- TXACCEPT is enabled, and `tx_data` valid, exactly when `bt = TX` and `TX_IDX < TXLEN` (R65, R194). -/
def State.txOffered (s : State) : Bool := decide (s.bt = .tx) && decide (s.txIdx < s.txLen.setWidth 16)

/-- TXDRAIN is enabled exactly when `bt = TX` and `TX_IDX = TXLEN` (R195). -/
def State.txDrained (s : State) : Bool := decide (s.bt = .tx) && decide (s.txIdx = s.txLen.setWidth 16)

/-- `tx_data`: while it is valid, the byte `TXBUF[TX_IDX]` offered to the Transport Port (R65, R193); while it
is not (also with TX_IDX = TXLEN, awaiting TXDRAIN), R65 gives no value and it is a free one. DESIGN CHOICE,
log 13. No event reads it while it is not valid (R194). -/
def State.txData (s : State) : Byte :=
  if s.txOffered then s.txBuf.getD s.txIdx.toNat 0 else Config.idleTxData s.txIdx

/-- R321: the block is quiescent when BT_STATE = IDLE. -/
def State.quiescent (s : State) : Bool := decide (s.bt = .idle)

end Sys2Proof.Machine
end

