-- ==== Sys2Proof/Machine/Ops.lean ====
section
/-! DEFINITION. The shared operations on the state: acceptance and refusal of a command (30_encoding R103),
the sequencer's CompleteTx, CompleteListen, StartTx, EvalWait, EvalListen and counters (41_bus_timing R192 to
R205), the interrupt bits (60_exceptions R263), ClearResults and the result registers (R146, R148). The block
takes no exception and has no return from one (R267, R268): an error is a status code and an interrupt bit. -/

namespace Sys2Proof.Machine

/-- `sat16(v + 1)` (R10, R201, R270). -/
def satInc (v : Word) : Word := if v = 0xFFFF#16 then v else v + 1

/-- `clamp(v, lo, hi) = max(lo, min(v, hi))` (R10). -/
def clamp (v lo hi : Word) : Word := if v < lo then lo else if hi < v then hi else v

/-- Sets bits of IRQ_PEND; a bit already 1 stays 1 (R263). -/
def State.raiseIrq (s : State) (bits : Word) : State := { s with irqPend := s.irqPend ||| bits }

/-- Acceptance: OP_STATUS is `{CODE = OK, OP = op}` (R103). -/
def State.acceptOp (s : State) (op : BitVec 4) : State := { s with opStatus := statusWord .ok op }

/-- A CMD write answered BUSY or ILLEGAL_OP: OP_STATUS and OPERR, nothing else (R102, R103). -/
def State.refuseOp (s : State) (c : Code) (op : BitVec 4) : State :=
  { s with opStatus := statusWord c op }.raiseIrq irqOpErr

/-- A CMD write with operation code `op`: refused BUSY if `busy` (R207), else accepted and performed in the
same event (R103). -/
def issue (op : BitVec 4) (busy : Bool) (perform : State → State) (s : State) :
    Host.Outcome State Fault Refusal :=
  if busy then .next (s.refuseOp .busy op) else .next (perform (s.acceptOp op))

/-- `CompleteTx(code)` (R204). -/
def State.completeTx (s : State) (c : Code) : State :=
  { s with bt := .idle, te := false, btStatus := statusWord c (flagField false) }.raiseIrq irqTxDone

/-- `CompleteListen(code)` (R205). -/
def State.completeListen (s : State) (c : Code) : State :=
  { s with bt := .idle, btStatus := statusWord c (flagField true) }.raiseIrq irqRxDone

/-- `StartTx()` (R193). -/
def State.startTx (s : State) : State := { s with te := true, bt := .tx, txIdx := 0 }

/-- `EvalWait()` (R192): the start test before the give-up test. -/
def State.evalWait (s : State) : State :=
  if s.bt = .wait then
    if s.lineQuiet && s.ifdMet then s.startTx
    else if s.busyWaitMs ≤ s.btTimer then s.completeTx .busBusy
    else s
  else s

/-- `EvalListen()` (R197). -/
def State.evalListen (s : State) : State :=
  if s.bt = .listen ∧ s.listenMs ≤ s.btTimer then
    s.completeListen (if s.rxCnt = 0 then .timeout else .ok)
  else s

/-- The counters of a TICK (R201): IDLE_MS and IFD_ELAPSED while TE = 0, BT_TIMER in WAIT and LISTEN. -/
def State.advanceCounters (s : State) : State :=
  { s with
    idleMs := if s.te then s.idleMs else satInc s.idleMs
    ifdElapsed := if s.te then s.ifdElapsed else satInc s.ifdElapsed
    btTimer := if s.bt = .wait ∨ s.bt = .listen then satInc s.btTimer else s.btTimer }

/-- `ClearResults()` (R148). -/
def State.clearResults (s : State) : State := { s with res := Results.zero s.params.maxData }

/-- A result index in RXBUF, or 0 where the decode defines none (R55, R56, R148). -/
def resultIndex (off : Nat) : Option Nat → Word
  | none => 0
  | some k => BitVec.ofNat 16 (off + k)

/-- The result registers of a decode at offset `off`, over cleared ones (R146, R148). -/
def resultsOf (maxData off : Nat) (r : DecodeResult) : Results :=
  { Results.zero maxData with
    start := resultIndex off r.start
    stop := resultIndex off r.stop
    dest := (r.fields.map Fields.dest).getD 0
    cmd := (r.fields.map Fields.cmd).getD 0
    dlen := (r.fields.map fun f => BitVec.ofNat 8 f.data.length).getD 0
    data := (r.fields.map fun f => f.data ++ List.replicate (maxData - f.data.length) 0).getD
      (List.replicate maxData 0)
    ck := (r.fields.map Fields.rck).getD 0
    calcSum := (r.fields.map Fields.calcSum).getD 0 }

/-- DEC_STATUS and the RES_* registers of a decode (R146), after ClearResults. -/
def State.writeDecode (s : State) (off : Nat) (r : DecodeResult) : State :=
  { s with
    decStatus := statusWord r.code r.detail.bits
    res := resultsOf s.params.maxData off r }

/-- TXBUF[0..|f|-1] takes the frame `f`; entries above keep what they hold (R45, R143). -/
def State.loadFrame (s : State) (f : List Byte) : State :=
  { s with txBuf := f ++ s.txBuf.drop f.length, txLen := BitVec.ofNat 8 f.length }

/-- One byte into RXBUF at RXCNT (R198). -/
def State.storeRx (s : State) (b : Byte) : State :=
  { s with rxBuf := s.rxBuf.set s.rxCnt.toNat b, rxCnt := s.rxCnt + 1 }

/-- RESET (R300): every register and internal element takes its reset value. The parameters, the events to
come and what has already left the block are no state of the block (R64, R301; log 1, 2, 6). -/
def State.resetBlock (s : State) : State :=
  { State.resetOf s.params with
    pending := s.pending, freeIdx := s.freeIdx, wire := s.wire, reads := s.reads }

end Sys2Proof.Machine
end

