-- ==== Sys2Proof/Machine/Operands.lean ====
section
/-! DEFINITION. Operand assembly (30_encoding R113): what each operation reads from the registers at the event
that performs it, and the register space itself (20_memory R70 to R75): the map, a host read's value, a host
write's effect on every register but CMD. -/

namespace Sys2Proof.Machine

/-- ENCODE's DATA operand: `ENC_DATA[0..ENC_DLEN-1]` (R44, R113). -/
def State.encodeData (s : State) : List Byte := s.encData.take s.encDlen.toNat

/-- DECODE's window `RXBUF[DEC_OFF .. RXCNT-1]`, of length `max(0, RXCNT - DEC_OFF)` (R147). -/
def State.decodeInput (s : State) : List Byte := (s.rxBuf.take s.rxCnt.toNat).drop s.decOff.toNat

/-- The registers of the map R71. -/
inductive Reg where
  | cmd | opStatus | status | encStatus | decStatus | btStatus | irqPend | irqEn
  | quietMs | ifdMs | listenMs | busyWaitMs | ckSeed | maxDataR | rxbufLenR
  | idleMs | ifdElapsed | btTimer | txIdx
  | encDest | encCmd | encDlen | txLen | rxCnt | decOff
  | resDest | resCmd | resDlen | resCk | resCalc | resStart | resEnd
  | encData (i : Nat) | txBuf (i : Nat) | resData (i : Nat) | rxBuf (i : Nat)
deriving DecidableEq, Repr

/-- The entry of an array window that begins at `base` and has `len` registers (R71). -/
def windowIndex (base len a : Nat) : Option Nat :=
  if base ≤ a ∧ a < base + len then some (a - base) else none

/-- The single registers of the map R71, in its order. -/
def singleReg (a : Nat) : Option Reg :=
  match a with
  | 0x000 => some .cmd
  | 0x001 => some .opStatus
  | 0x002 => some .status
  | 0x003 => some .encStatus
  | 0x004 => some .decStatus
  | 0x005 => some .btStatus
  | 0x006 => some .irqPend
  | 0x007 => some .irqEn
  | 0x008 => some .quietMs
  | 0x009 => some .ifdMs
  | 0x00A => some .listenMs
  | 0x00B => some .busyWaitMs
  | 0x00C => some .ckSeed
  | 0x00D => some .maxDataR
  | 0x00E => some .rxbufLenR
  | 0x00F => some .idleMs
  | 0x010 => some .ifdElapsed
  | 0x011 => some .btTimer
  | 0x012 => some .txIdx
  | 0x018 => some .encDest
  | 0x019 => some .encCmd
  | 0x01A => some .encDlen
  | 0x01B => some .txLen
  | 0x01C => some .rxCnt
  | 0x01D => some .decOff
  | 0x020 => some .resDest
  | 0x021 => some .resCmd
  | 0x022 => some .resDlen
  | 0x023 => some .resCk
  | 0x024 => some .resCalc
  | 0x025 => some .resStart
  | 0x026 => some .resEnd
  | _ => none

/-- The register at a host address, or none where the address is unmapped (R71, R72). -/
def regAt (p : Params) (addr : Addr) : Option Reg :=
  let a := addr.toNat
  if a < 0x100 then singleReg a
  else if a < 0x200 then (windowIndex 0x100 p.maxData a).map .encData
  else if a < 0x300 then (windowIndex 0x200 p.txbufLen a).map .txBuf
  else if a < 0x400 then (windowIndex 0x300 p.maxData a).map .resData
  else (windowIndex 0x400 p.rxbufLen a).map .rxBuf

/-- A register's 16-bit view: an 8-bit register zero extended, CMD reads 0 (R21, R22). -/
def readReg (s : State) : Reg → Word
  | .cmd => 0
  | .opStatus => s.opStatus
  | .status => s.statusView
  | .encStatus => s.encStatus
  | .decStatus => s.decStatus
  | .btStatus => s.btStatus
  | .irqPend => s.irqPend
  | .irqEn => s.irqEn
  | .quietMs => s.quietMs
  | .ifdMs => s.ifdMs
  | .listenMs => s.listenMs
  | .busyWaitMs => s.busyWaitMs
  | .ckSeed => s.ckSeed.setWidth 16
  | .maxDataR => BitVec.ofNat 16 s.params.maxData
  | .rxbufLenR => BitVec.ofNat 16 s.params.rxbufLen
  | .idleMs => s.idleMs
  | .ifdElapsed => s.ifdElapsed
  | .btTimer => s.btTimer
  | .txIdx => s.txIdx
  | .encDest => s.encDest.setWidth 16
  | .encCmd => s.encCmd.setWidth 16
  | .encDlen => s.encDlen.setWidth 16
  | .txLen => s.txLen.setWidth 16
  | .rxCnt => s.rxCnt
  | .decOff => s.decOff
  | .resDest => s.res.dest.setWidth 16
  | .resCmd => s.res.cmd.setWidth 16
  | .resDlen => s.res.dlen.setWidth 16
  | .resCk => s.res.ck.setWidth 16
  | .resCalc => s.res.calcSum.setWidth 16
  | .resStart => s.res.start
  | .resEnd => s.res.stop
  | .encData i => (s.encData.getD i 0).setWidth 16
  | .txBuf i => (s.txBuf.getD i 0).setWidth 16
  | .resData i => (s.res.data.getD i 0).setWidth 16
  | .rxBuf i => (s.rxBuf.getD i 0).setWidth 16

/-- `MemRead(addr, 2)`: the value a host read returns; 0 at an unmapped address (R72, R73). -/
def hostValue (s : State) (addr : Addr) : Word :=
  match regAt s.params addr with
  | none => 0
  | some r => readReg s r

/-- `min(v, RXBUF_LEN)`, what a host write of RXCNT stores (R48). -/
def rxCntLegal (p : Params) (v : Word) : Word := BitVec.ofNat 16 (min v.toNat p.rxbufLen)

/-- A host write of `v` to a register other than CMD, by its access type (R21, R75): R registers ignore it,
W1C clears, WARL stores a legal value, RXBUF and RXCNT ignore it in LISTEN (R47, R48), an 8-bit register
stores `v[7:0]`. CMD stores nothing (R22); the operation it starts is in Machine/Events.lean. -/
def writeReg (s : State) (v : Word) : Reg → State
  | .cmd => s
  | .opStatus => s
  | .status => s
  | .encStatus => s
  | .decStatus => s
  | .btStatus => s
  | .irqPend => { s with irqPend := s.irqPend &&& ~~~v }
  | .irqEn => { s with irqEn := v &&& irqMask }
  | .quietMs => { s with quietMs := clamp v Config.quietMin Config.quietMax }
  | .ifdMs => { s with ifdMs := clamp v Config.ifdMin Config.ifdMax }
  | .listenMs => { s with listenMs := v }
  | .busyWaitMs => { s with busyWaitMs := v }
  | .ckSeed => { s with ckSeed := v.setWidth 8 }
  | .maxDataR => s
  | .rxbufLenR => s
  | .idleMs => s
  | .ifdElapsed => s
  | .btTimer => s
  | .txIdx => s
  | .encDest => { s with encDest := v.setWidth 8 }
  | .encCmd => { s with encCmd := v.setWidth 8 }
  | .encDlen => { s with encDlen := v.setWidth 8 }
  | .txLen => s
  | .rxCnt => if s.bt = .listen then s else { s with rxCnt := rxCntLegal s.params v }
  | .decOff => { s with decOff := v }
  | .resDest => s
  | .resCmd => s
  | .resDlen => s
  | .resCk => s
  | .resCalc => s
  | .resStart => s
  | .resEnd => s
  | .encData i => { s with encData := s.encData.set i (v.setWidth 8) }
  | .txBuf _ => s
  | .resData _ => s
  | .rxBuf i => if s.bt = .listen then s else { s with rxBuf := s.rxBuf.set i (v.setWidth 8) }

/-- The host's placing of a frame command byte: a host write of that value to ENC_CMD (R42, R110). -/
def State.placeFrameCmd (s : State) (b : Byte) : State := writeReg s (b.setWidth 16) .encCmd

end Sys2Proof.Machine
end

