-- ==== Sys2Proof/Machine/BusTiming.lean ====
section
/-! DEFINITION. The operations of the Bus Timing Controller: NOP, TRANSMIT, LISTEN, CANCEL (41_bus_timing R191,
R196, R202, R203) with the busy rules of R207. -/

namespace Sys2Proof.Machine

/-- `busy(NOP)`: never (R207). -/
def busyNop (_ : State) : Bool := false

/-- `busy(TRANSMIT)`: BT_STATE ≠ IDLE (R207). -/
def busyTransmit (s : State) : Bool := decide (s.bt ≠ .idle)

/-- `busy(LISTEN)`: BT_STATE ≠ IDLE (R207). -/
def busyListen (s : State) : Bool := decide (s.bt ≠ .idle)

/-- `busy(CANCEL)`: BT_STATE = TX (R207). -/
def busyCancel (s : State) : Bool := decide (s.bt = .tx)

/-- NOP after acceptance: nothing (R203). -/
def performNop (s : State) : State := s

/-- NOP, CMD value 0x0000 (R203). -/
def execNop (s : State) : Host.Outcome State Fault Refusal := issue 0x0 (busyNop s) performNop s

/-- A TRANSMIT enters WAIT (R191). -/
def State.enterWait (s : State) : State := { s with bt := .wait, btTimer := 0 }

/-- TRANSMIT after acceptance (R191). -/
def performTransmit (s : State) : State :=
  if s.txLen = 0 then s.completeTx .invalidPayload else s.enterWait.evalWait

/-- TRANSMIT, CMD value 0x0003 (R191). -/
def execTransmit (s : State) : Host.Outcome State Fault Refusal :=
  issue 0x3 (busyTransmit s) performTransmit s

/-- A LISTEN opens a fresh window (R196). -/
def State.enterListen (s : State) : State :=
  { s with rxCnt := 0, decOff := 0, rxOvf := false, btTimer := 0, bt := .listen }

/-- LISTEN after acceptance (R196). -/
def performListen (s : State) : State := s.enterListen.evalListen

/-- LISTEN, CMD value 0x0004 (R196). -/
def execListen (s : State) : Host.Outcome State Fault Refusal := issue 0x4 (busyListen s) performListen s

/-- CANCEL after acceptance (R202); TX does not occur here, it is refused (R207). -/
def performCancel (s : State) : State :=
  match s.bt with
  | .wait => s.completeTx .cancelled
  | .listen => s.completeListen .cancelled
  | .idle => s
  | .tx => s

/-- CANCEL, CMD value 0x0005 (R202). -/
def execCancel (s : State) : Host.Outcome State Fault Refusal := issue 0x5 (busyCancel s) performCancel s

end Sys2Proof.Machine
end

