-- ==== Sys2Proof/Machine/FrameCodec.lean ====
section
/-! DEFINITION. The operations of the Frame Codec, ENCODE and DECODE (40_frame_codec R143 to R153), and the
five frame command bytes the host places in ENC_CMD (30_encoding R110). -/

namespace Sys2Proof.Machine

/-- `busy(ENCODE)`: BT_STATE in WAIT or TX (R207). -/
def busyEncode (s : State) : Bool := decide (s.bt = .wait ∨ s.bt = .tx)

/-- `busy(DECODE)`: never (R207). -/
def busyDecode (_ : State) : Bool := false

/-- R145: a failed ENCODE leaves no frame. TXBUF is unchanged. -/
def State.failEncode (s : State) : State :=
  { s with txLen := 0, encStatus := statusWord .invalidPayload (flagField false) }

/-- ENCODE after acceptance, with `d <= MAX_DATA` (R143). -/
def State.buildFrame (s : State) : State :=
  let data := s.encodeData
  { s.loadFrame (encodeFrame s.ckSeed s.encDest s.encCmd data) with
    encStatus := statusWord .ok
      (flagField (notTransparent (payload s.ckSeed s.encDest s.encCmd data))) }

/-- ENCODE after acceptance (R143, R145). -/
def performEncode (s : State) : State :=
  if s.params.maxData < s.encDlen.toNat then s.failEncode else s.buildFrame

/-- ENCODE, CMD value 0x0001 (R143). -/
def execEncode (s : State) : Host.Outcome State Fault Refusal := issue 0x1 (busyEncode s) performEncode s

/-- DECODE after acceptance (R146). -/
def performDecode (s : State) : State :=
  let r := decodeWindow s.decodeInput s.ckSeed s.params.maxData
  s.clearResults.writeDecode s.decOff.toNat r

/-- DECODE, CMD value 0x0002 (R146). -/
def execDecode (s : State) : Host.Outcome State Fault Refusal := issue 0x2 (busyDecode s) performDecode s

/-- FRAME_TAKEOVER (R110): the host places 0x00 in ENC_CMD (log 5). -/
def execFrameTakeover (s : State) : Host.Outcome State Fault Refusal := .next (s.placeFrameCmd 0x00)

/-- FRAME_SET_OUTPUT (R110): the host places 0x11 in ENC_CMD (log 5). -/
def execFrameSetOutput (s : State) : Host.Outcome State Fault Refusal := .next (s.placeFrameCmd 0x11)

/-- FRAME_READ_SALINITY (R110): the host places 0x12 in ENC_CMD (log 5). -/
def execFrameReadSalinity (s : State) : Host.Outcome State Fault Refusal := .next (s.placeFrameCmd 0x12)

/-- FRAME_GET_VERSION (R110): the host places 0x14 in ENC_CMD (log 5). -/
def execFrameGetVersion (s : State) : Host.Outcome State Fault Refusal := .next (s.placeFrameCmd 0x14)

/-- FRAME_GET_TEMPERATURE (R110): the host places 0x15 in ENC_CMD (log 5). -/
def execFrameGetTemperature (s : State) : Host.Outcome State Fault Refusal := .next (s.placeFrameCmd 0x15)

end Sys2Proof.Machine
end

