-- ==== Sys2Proof/Machine/Dispatch.lean ====
section
/-! DEFINITION. exec: one arm per constructor of Instr, each one direct call of its meaning. -/

namespace Sys2Proof.Machine

def exec (i : Instr) (s : State) : Host.Outcome State Fault Refusal :=
  match i with
  | .nop => Sys2Proof.Machine.execNop s
  | .encode => Sys2Proof.Machine.execEncode s
  | .decode => Sys2Proof.Machine.execDecode s
  | .transmit => Sys2Proof.Machine.execTransmit s
  | .listen => Sys2Proof.Machine.execListen s
  | .cancel => Sys2Proof.Machine.execCancel s
  | .frameTakeover => Sys2Proof.Machine.execFrameTakeover s
  | .frameSetOutput => Sys2Proof.Machine.execFrameSetOutput s
  | .frameReadSalinity => Sys2Proof.Machine.execFrameReadSalinity s
  | .frameGetVersion => Sys2Proof.Machine.execFrameGetVersion s
  | .frameGetTemperature => Sys2Proof.Machine.execFrameGetTemperature s

end Sys2Proof.Machine
end

