-- ==== Sys2Proof/Machine/Events.lean ====
section
/-! DEFINITION. The events of the agents (00_scope R7, R14): host reads and writes (20_memory R72 to R75), TICK,
RX, TXACCEPT, TXDRAIN (41_bus_timing R194 to R201), RESET (70_reset_and_hazards R300), and which one comes
next. -/

namespace Sys2Proof.Machine

/-- A host read (R73, R74): the value is returned on `rdata`, the block is unchanged. -/
def State.hostRead (s : State) (addr : Addr) : State := { s with reads := s.reads ++ [hostValue s addr] }

/-- A host write to a register other than CMD; ignored at an unmapped address (R72, R75). -/
def State.hostStore (s : State) (addr : Addr) (v : Word) : State :=
  match regAt s.params addr with
  | none => s
  | some r => writeReg s v r

/-- The word of the opcode table that a host write carries, if it carries one: CMD16 in a write of CMD
(R100), FRAME_CMD8 in a write of ENC_CMD, which takes `v[7:0]` (R21, R110; log 5). -/
def hostWordOf (addr : Addr) (v : Word) : Option CmdWord :=
  if addr = 0x000#12 then some (.cmd16 v)
  else if addr = 0x019#12 then some (.frameCmd8 (v.setWidth 8))
  else none

/-- The instruction a host write issues, if any: its word, decoded. -/
def hostInstr (addr : Addr) (v : Word) : Option Instr :=
  match hostWordOf addr v with
  | none => none
  | some w =>
    match decode w with
    | .ok i => some i
    | .error _ => none

/-- A host write that issues no instruction: an illegal CMD word is answered ILLEGAL_OP (R102), any other
write stores by the register's access type. -/
def State.hostPlainWrite (s : State) (addr : Addr) (v : Word) : State :=
  if addr = 0x000#12 then s.refuseOp .illegalOp (opField v) else s.hostStore addr v

/-- A host write (R73, R75). -/
def hostWrite (addr : Addr) (v : Word) (s : State) : Host.Outcome State Fault Refusal :=
  match hostInstr addr v with
  | some i => exec i s
  | none => .next (s.hostPlainWrite addr v)

/-- TICK (R201): counters first, then EvalWait, then EvalListen. -/
def State.tickEvent (s : State) : State := s.advanceCounters.evalWait.evalListen

/-- A byte in a listen window: stored, or dropped with RX_OVF and RXOVF when RXBUF is full (R198, R200). -/
def State.receive (s : State) (b : Byte) : State :=
  if s.rxCnt.toNat < s.params.rxbufLen then s.storeRx b
  else { s with rxOvf := true }.raiseIrq irqRxOvf

/-- RX(b) (R198), enabled exactly when TE = 0 (R199); not enabled, it does not occur (log 4). -/
def State.rxEvent (s : State) (b : Byte) : State :=
  if s.te then s
  else if s.bt = .listen then { s with idleMs := 0 }.receive b
  else { s with idleMs := 0 }

/-- TXACCEPT (R194): the port takes the offered byte; not enabled, it does not occur (log 4). -/
def State.txAcceptEvent (s : State) : State :=
  if s.txOffered then { s with wire := s.wire ++ [s.txData], txIdx := s.txIdx + 1 } else s

/-- TXDRAIN (R195): TE falls, the quiet and inter-frame measurements restart, the TRANSMIT ends OK; not
enabled, it does not occur (log 4). -/
def State.txDrainEvent (s : State) : State :=
  if s.txDrained then { s with te := false, idleMs := 0, ifdElapsed := 0 }.completeTx .ok else s

/-- One event. -/
def runEvent (e : Event) (s : State) : Host.Outcome State Fault Refusal :=
  match e with
  | .hostRead addr => .next (s.hostRead addr)
  | .hostWrite addr v => hostWrite addr v s
  | .tick => .next s.tickEvent
  | .rx b => .next (s.rxEvent b)
  | .txAccept => .next s.txAcceptEvent
  | .txDrain => .next s.txDrainEvent
  | .reset => .next s.resetBlock

/-- The next event: the earliest pending one (log 2), or the free environment's (log 3). -/
def State.nextEvent (s : State) : Event :=
  match s.pending with
  | [] => Config.freeEvent s.freeIdx
  | e :: _ => e

/-- The state once the next event has been taken. -/
def State.takeEvent (s : State) : State :=
  match s.pending with
  | [] => { s with freeIdx := s.freeIdx + 1 }
  | _ :: rest => { s with pending := rest }

/-- The host write that carries a word of `nbits` bits: 8 bits are a FRAME_CMD8 byte written to ENC_CMD, 16
bits a CMD16 word written to CMD (R22, R42, R110). -/
def tableWordEvent (nbits w : Nat) : Event :=
  if nbits = 8 then .hostWrite 0x019 (BitVec.ofNat 16 (w % 256)) else .hostWrite 0x000 (BitVec.ofNat 16 w)

end Sys2Proof.Machine
end

