-- ==== Sys2Proof/Machine/Step.lean ====
section
/-! DEFINITION. The step: one event (92 D4). It calls what Machine/Events.lean defines. -/

namespace Sys2Proof.Machine

/-- One step: the next event happens. -/
def step (s : State) : Host.Outcome State Fault Refusal := runEvent s.nextEvent s.takeEvent

/-- `s` with the host's write of one word of the opcode table as the very next event (log 7). -/
def State.withFetchWord (s : State) (nbits w : Nat) : State :=
  { s with pending := tableWordEvent nbits w :: s.pending }

end Sys2Proof.Machine
end

