-- ==== Sys2Proof/Laws/PerInstr.lean ====
section
/-! SUPPORT. The per-instruction family EncodedWord: the word the encoder writes for an instruction is a defined
encoding of the table (30_encoding R100, R101, R110). -/

namespace Sys2Proof.Laws.EncodedWord

/-- The encoder writes a well-formed word for `i`. -/
def Statement (i : Instr) : Prop := (Sys2Proof.encode i).wf = true

theorem nop : Statement .nop := by unfold Statement; decide
theorem encode : Statement .encode := by unfold Statement; decide
theorem decode : Statement .decode := by unfold Statement; decide
theorem transmit : Statement .transmit := by unfold Statement; decide
theorem listen : Statement .listen := by unfold Statement; decide
theorem cancel : Statement .cancel := by unfold Statement; decide
theorem frameTakeover : Statement .frameTakeover := by unfold Statement; decide
theorem frameSetOutput : Statement .frameSetOutput := by unfold Statement; decide
theorem frameReadSalinity : Statement .frameReadSalinity := by unfold Statement; decide
theorem frameGetVersion : Statement .frameGetVersion := by unfold Statement; decide
theorem frameGetTemperature : Statement .frameGetTemperature := by unfold Statement; decide

end Sys2Proof.Laws.EncodedWord
end

