-- ==== Sys2Proof/Safety.lean ====
section
/-! DEFINITION. What a safe run is, in the terms the statements use: the invariant of every reachable state,
runs of events, and the words of the codec's rules as predicates on lists. Every invariant is decidable. -/

namespace Sys2Proof.Machine

/-- The register arrays have the lengths the parameters give (R44, R45, R47, R57), and these are legal (R8). -/
abbrev State.LengthsOk (s : State) : Prop :=
  s.params.legal = true ∧ s.encData.length = s.params.maxData ∧ s.txBuf.length = 7 + s.params.maxData ∧
    s.rxBuf.length = s.params.rxbufLen ∧ s.res.data.length = s.params.maxData

/-- The ranges of the WARL registers and of the lengths (R30, R31, R46, R48, R52). -/
abbrev State.RangesOk (s : State) : Prop :=
  (40 ≤ s.quietMs.toNat ∧ s.quietMs.toNat ≤ 150) ∧ (30 ≤ s.ifdMs.toNat ∧ s.ifdMs.toNat ≤ 150) ∧
    s.rxCnt.toNat ≤ s.params.rxbufLen ∧
    (s.txLen = 0 ∨ (7 ≤ s.txLen.toNat ∧ s.txLen.toNat ≤ 7 + s.params.maxData)) ∧
    s.res.dlen.toNat ≤ s.params.maxData

/-- The status registers hold only the codes and fields of R23, R25, R26, R27 (with R104, R105), and reserved
bits are 0 (R21, R28, R29). -/
abbrev State.StatusOk (s : State) : Prop :=
  (s.opStatus.toNat < 256 ∧ s.opStatus.toNat % 16 ∈ [0, 1, 8, 9]) ∧
    s.encStatus ∈ [0x0000#16, 0x0001#16, 0x0011#16, 0x0004#16] ∧
    s.decStatus ∈ [0x0000#16, 0x0001#16, 0x0012#16, 0x0022#16, 0x0032#16, 0x0043#16, 0x0053#16, 0x0063#16] ∧
    s.btStatus ∈ [0x0000#16, 0x0001#16, 0x0004#16, 0x0006#16, 0x0007#16, 0x0011#16, 0x0015#16, 0x0016#16] ∧
    s.irqPend.toNat < 16 ∧ s.irqEn.toNat < 16

/-- TE is 1 exactly while BT_STATE = TX (R60); a waiting or running TRANSMIT has a frame (R191); the index of
a running one is inside it (R194). -/
abbrev State.SequencerOk (s : State) : Prop :=
  s.te = decide (s.bt = .tx) ∧ (s.bt = .wait ∨ s.bt = .tx → s.txLen ≠ 0) ∧
    (s.bt = .tx → s.txIdx.toNat ≤ s.txLen.toNat)

/-- The invariant of every reachable state. What total functions answer outside it is log 9. -/
abbrev State.Inv (s : State) : Prop := s.LengthsOk ∧ s.RangesOk ∧ s.StatusOk ∧ s.SequencerOk

/-- The result registers carry values only for the outcomes of the table in R148 (R50 to R57). -/
abbrev State.ResultsValid (s : State) : Prop :=
  (s.decStatus ≠ 0x0001#16 → s.decStatus ≠ 0x0063#16 →
    s.res.dest = 0 ∧ s.res.cmd = 0 ∧ s.res.dlen = 0 ∧ s.res.ck = 0 ∧ s.res.calcSum = 0) ∧
  (s.decStatus ∈ [0x0000#16, 0x0012#16, 0x0022#16] → s.res.start = 0) ∧
  (s.decStatus ∈ [0x0000#16, 0x0012#16, 0x0022#16, 0x0032#16] → s.res.stop = 0) ∧
  (s.decStatus = 0x0001#16 → s.res.ck = s.res.calcSum) ∧
  (s.decStatus = 0x0063#16 → s.res.ck ≠ s.res.calcSum) ∧
  (∀ b ∈ s.res.data.drop s.res.dlen.toNat, b = 0)

/-- What TXBUF holds when TXLEN is not 0: one whole encoded frame (R45, R46, R80). -/
def State.HoldsFrame (s : State) : Prop :=
  s.txLen ≠ 0 → ∃ seed dest cmd data, data.length ≤ s.params.maxData ∧
    s.txBuf.take s.txLen.toNat = encodeFrame seed dest cmd data

/-- In TX, the last TX_IDX bytes handed to the Transport Port are TXBUF[0..TX_IDX-1] in order (R76, R194). -/
abbrev State.WireInOrder (s : State) : Prop := s.bt = .tx → s.txBuf.take s.txIdx.toNat <:+ s.wire

/-- `k` is the least index, at or above `from0`, where `a` is followed by `b` inside `win` (R149, R150). -/
def FirstPairAt (a b : Byte) (win : List Byte) (from0 k : Nat) : Prop :=
  from0 ≤ k ∧ win[k]? = some a ∧ win[k + 1]? = some b ∧
    ∀ j, from0 ≤ j → j < k → ¬ (win[j]? = some a ∧ win[j + 1]? = some b)

/-- No index at or above `from0` has `a` followed by `b` inside `win`. -/
def NoPairFrom (a b : Byte) (win : List Byte) (from0 : Nat) : Prop :=
  ∀ j, from0 ≤ j → ¬ (win[j]? = some a ∧ win[j + 1]? = some b)

/-- R109: no `0x10` of the candidate payload is followed by `0x03`. -/
def Transparent (p : List Byte) : Prop := NoPairFrom 0x10 0x03 p 0

/-- A run of the events `es` in which every state visited, the first and the last among them, has `P`. -/
inductive RunIn (P : State → Prop) : State → List Event → State → Prop where
  | done {s} : P s → RunIn P s [] s
  | more {s t u e es} : P s → runEvent e s = .next t → RunIn P t es u → RunIn P s (e :: es) u

/-- A run of the events `es`. -/
abbrev Run : State → List Event → State → Prop := RunIn fun _ => True

/-- How many TICK events a list holds. -/
def ticks (es : List Event) : Nat := es.count .tick

/-- The state with the values of the bytes sent and received left out (R210). -/
def State.withoutBytes (s : State) : State := { s with txBuf := [], rxBuf := [], wire := [] }

/-- The events the sequencer reacts to (R194, R195, R198, R201). -/
def isSequencerEvent : Event → Bool
  | .tick => true
  | .rx _ => true
  | .txAccept => true
  | .txDrain => true
  | _ => false

end Sys2Proof.Machine
end

