-- ==== Sys2Proof/Certificates/Slice0/Obligations.lean ====
section
/-! DEFINITION. The statements for the provers. They come from the numbered rules of spec/; a docstring names the
rules. Where a statement rests on a choice of the model, its docstring names the log entry. -/

open Sys2Proof Sys2Proof.Machine

/-! ## Encoding and the step -/

/-- R100, R101, R110: each defined word stands for one instruction, and each instruction for one word. -/
def Obligations.DecodeInvertsEncode : Prop :=
  ∀ (w : CmdWord) (i : Instr), decode w = .ok i ↔ w = encode i

/-- R102: which CMD values are illegal, and by which of the two reasons (the names are the model's). -/
def Obligations.ReservedCommandWordsRejected : Prop :=
  ∀ v : Word,
    (16 ≤ v.toNat → decode (.cmd16 v) = .error (.reservedBits v)) ∧
    (6 ≤ v.toNat → v.toNat < 16 → decode (.cmd16 v) = .error (.reservedOperation v)) ∧
    (v.toNat < 6 → ∃ i, decode (.cmd16 v) = .ok i)

/-- The words of R101 and R110, written out, give their instructions. -/
def Obligations.TableWordsDecode : Prop :=
  decodeTableWord 16 0x0000 = some .nop ∧ decodeTableWord 16 0x0001 = some .encode ∧
  decodeTableWord 16 0x0002 = some .decode ∧ decodeTableWord 16 0x0003 = some .transmit ∧
  decodeTableWord 16 0x0004 = some .listen ∧ decodeTableWord 16 0x0005 = some .cancel ∧
  decodeTableWord 16 0x0006 = none ∧ decodeTableWord 16 0x0011 = none ∧
  decodeTableWord 8 0x00 = some .frameTakeover ∧ decodeTableWord 8 0x11 = some .frameSetOutput ∧
  decodeTableWord 8 0x12 = some .frameReadSalinity ∧ decodeTableWord 8 0x14 = some .frameGetVersion ∧
  decodeTableWord 8 0x15 = some .frameGetTemperature ∧ decodeTableWord 8 0x13 = none

/-- When the next event is the host's write of a word to CMD (R22), or of a byte to ENC_CMD (R42; log 5), and
the word decodes to `i`, the step is `exec` of `i`, the event being taken off (log 2). -/
def Obligations.StepRunsDecodedInstruction : Prop :=
  (∀ (s : State) (i : Instr) (v : Word) (rest : List Event),
    decode (.cmd16 v) = .ok i → s.pending = .hostWrite 0x000#12 v :: rest →
      step s = exec i { s with pending := rest }) ∧
  (∀ (s : State) (i : Instr) (v : Word) (rest : List Event),
    decode (.frameCmd8 (v.setWidth 8)) = .ok i → s.pending = .hostWrite 0x019#12 v :: rest →
      step s = exec i { s with pending := rest }) ∧
  (∀ (s : State) (i : Instr) (nbits w : Nat),
    decodeTableWord nbits w = some i → step (s.withFetchWord nbits w) = exec i s)

/-- R260: no operation and no event traps, halts, or enters a fault state: every step answers a next state. -/
def Obligations.EveryStepHasNextState : Prop :=
  ∀ s : State, ∃ t, step s = .next t

/-- R81: an event sees the effects of earlier events only: it does not read what is still to come. The list
of coming events and the free environment's counter are the model's own (log 2, log 3). -/
def Obligations.EventsDoNotReadAhead : Prop :=
  ∀ (e : Event) (s t : State) (p : List Event) (n : Nat), runEvent e s = .next t →
    runEvent e { s with pending := p, freeIdx := n } = .next { t with pending := p, freeIdx := n }

/-! ## Invariants -/

/-- R8, R30, R31, R44 to R48, R60 and the status fields of R23 to R29 hold right after reset, for all legal
parameters. -/
def Obligations.ResetMeetsInvariants : Prop :=
  State.reset.Inv ∧ ∀ p : Params, p.legal = true →
    (State.resetOf p).Inv ∧ (State.resetOf p).ResultsValid ∧ (State.resetOf p).HoldsFrame ∧
      (State.resetOf p).WireInOrder

/-- Every step keeps the invariant: lengths, ranges, legal codes, reserved bits, TE exactly in TX (R60). -/
def Obligations.StepKeepsInvariant : Prop :=
  ∀ s t : State, s.Inv → step s = .next t → t.Inv

/-- Every step keeps the result registers valid only for their outcomes (R50 to R57, R148). -/
def Obligations.StepKeepsResultsValid : Prop :=
  ∀ s t : State, s.Inv → s.ResultsValid → step s = .next t → t.ResultsValid

/-- Every step keeps TXBUF[0..TXLEN-1] one whole encoded frame (R45, R46, R80): no other bytes are ever sent. -/
def Obligations.StepKeepsWholeFrame : Prop :=
  ∀ s t : State, s.Inv → s.HoldsFrame → step s = .next t → t.HoldsFrame

/-- Every step keeps the bytes handed over in TX equal to TXBUF's, in order (R76, R194). The list of bytes
handed over is the model's own (log 6). -/
def Obligations.StepKeepsWireOrder : Prop :=
  ∀ s t : State, s.Inv → s.WireInOrder → step s = .next t → t.WireInOrder

/-- R35, R36: the parameters never change. -/
def Obligations.ParametersNeverChange : Prop :=
  ∀ s t : State, step s = .next t → t.params = s.params

/-! ## Reset and the register space -/

/-- R300: after RESET every register reads its reset value, whatever the block was doing; an operation in
progress leaves no completion code and no interrupt. The last line is the model's own choice, no rule of the
spec: RESET leaves the parameters (log 1), the events to come (log 2), the free environment's counter (log 3)
and the lists of bytes handed over and values returned (log 6) as they are. -/
def Obligations.ResetRegisterValues : Prop :=
  ∀ s : State, ∃ t, runEvent .reset s = .next t ∧
    t.bt = .idle ∧ t.te = false ∧ t.rxOvf = false ∧ t.irq = false ∧
    (∀ addr : Addr, hostValue t addr =
      if addr = 0x002#12 then 0x0010 else if addr = 0x008#12 then 50 else if addr = 0x009#12 then 50
      else if addr = 0x00A#12 then 500 else if addr = 0x00B#12 then 1000
      else if addr = 0x00D#12 then BitVec.ofNat 16 s.params.maxData
      else if addr = 0x00E#12 then BitVec.ofNat 16 s.params.rxbufLen
      else if addr = 0x010#12 then 0xFFFF else 0) ∧
    t.params = s.params ∧ t.pending = s.pending ∧ t.freeIdx = s.freeIdx ∧ t.wire = s.wire ∧ t.reads = s.reads

/-- R71 with R21: the register map, in full; an 8-bit register reads zero extended, CMD reads 0. -/
def Obligations.RegisterMapReads : Prop :=
  ∀ s : State, s.Inv →
    hostValue s 0x000#12 = 0 ∧ hostValue s 0x001#12 = s.opStatus ∧ hostValue s 0x002#12 = s.statusView ∧
    hostValue s 0x003#12 = s.encStatus ∧ hostValue s 0x004#12 = s.decStatus ∧ hostValue s 0x005#12 = s.btStatus ∧
    hostValue s 0x006#12 = s.irqPend ∧ hostValue s 0x007#12 = s.irqEn ∧ hostValue s 0x008#12 = s.quietMs ∧
    hostValue s 0x009#12 = s.ifdMs ∧ hostValue s 0x00A#12 = s.listenMs ∧ hostValue s 0x00B#12 = s.busyWaitMs ∧
    (hostValue s 0x00C#12).toNat = s.ckSeed.toNat ∧ (hostValue s 0x00D#12).toNat = s.params.maxData ∧
    (hostValue s 0x00E#12).toNat = s.params.rxbufLen ∧ hostValue s 0x00F#12 = s.idleMs ∧
    hostValue s 0x010#12 = s.ifdElapsed ∧ hostValue s 0x011#12 = s.btTimer ∧ hostValue s 0x012#12 = s.txIdx ∧
    (hostValue s 0x018#12).toNat = s.encDest.toNat ∧ (hostValue s 0x019#12).toNat = s.encCmd.toNat ∧
    (hostValue s 0x01A#12).toNat = s.encDlen.toNat ∧ (hostValue s 0x01B#12).toNat = s.txLen.toNat ∧
    hostValue s 0x01C#12 = s.rxCnt ∧ hostValue s 0x01D#12 = s.decOff ∧
    (hostValue s 0x020#12).toNat = s.res.dest.toNat ∧ (hostValue s 0x021#12).toNat = s.res.cmd.toNat ∧
    (hostValue s 0x022#12).toNat = s.res.dlen.toNat ∧ (hostValue s 0x023#12).toNat = s.res.ck.toNat ∧
    (hostValue s 0x024#12).toNat = s.res.calcSum.toNat ∧ hostValue s 0x025#12 = s.res.start ∧
    hostValue s 0x026#12 = s.res.stop ∧
    (∀ i b, s.encData[i]? = some b → (hostValue s (BitVec.ofNat 12 (0x100 + i))).toNat = b.toNat) ∧
    (∀ i b, s.txBuf[i]? = some b → (hostValue s (BitVec.ofNat 12 (0x200 + i))).toNat = b.toNat) ∧
    (∀ i b, s.res.data[i]? = some b → (hostValue s (BitVec.ofNat 12 (0x300 + i))).toNat = b.toNat) ∧
    (∀ i b, s.rxBuf[i]? = some b → (hostValue s (BitVec.ofNat 12 (0x400 + i))).toNat = b.toNat)

/-- R72, with the unmapped addresses of R71: reads return 0, writes are ignored. -/
def Obligations.UnmappedAddressesInert : Prop :=
  ∀ (s : State) (a : Addr) (v : Word), s.Inv →
    ((0x013 ≤ a.toNat ∧ a.toNat ≤ 0x017) ∨ (0x01E ≤ a.toNat ∧ a.toNat ≤ 0x01F) ∨
      (0x027 ≤ a.toNat ∧ a.toNat ≤ 0x0FF) ∨
      (0x100 + s.params.maxData ≤ a.toNat ∧ a.toNat < 0x200) ∨
      (0x200 + (7 + s.params.maxData) ≤ a.toNat ∧ a.toNat < 0x300) ∨
      (0x300 + s.params.maxData ≤ a.toNat ∧ a.toNat < 0x400) ∨
      0x400 + s.params.rxbufLen ≤ a.toNat) →
    runEvent (.hostRead a) s = .next { s with reads := s.reads ++ [0] } ∧
    runEvent (.hostWrite a v) s = .next s

/-- R74: no host read has a side effect: the block's state is unchanged; what it returns (the model's own
list, log 6) is the register's view. -/
def Obligations.HostReadsChangeNothing : Prop :=
  ∀ (s : State) (a : Addr),
    runEvent (.hostRead a) s = .next { s with reads := s.reads ++ [hostValue s a] }

/-- R21, R75: a host write to an `R` register of the map R71 is ignored. -/
def Obligations.ReadOnlyRegistersIgnoreWrites : Prop :=
  ∀ (s : State) (a : Addr) (v : Word), s.Inv →
    (a ∈ [0x001#12, 0x002#12, 0x003#12, 0x004#12, 0x005#12, 0x00D#12, 0x00E#12, 0x00F#12, 0x010#12, 0x011#12,
        0x012#12, 0x01B#12, 0x020#12, 0x021#12, 0x022#12, 0x023#12, 0x024#12, 0x025#12, 0x026#12] ∨
      (0x200 ≤ a.toNat ∧ a.toNat < 0x200 + (7 + s.params.maxData)) ∨
      (0x300 ≤ a.toNat ∧ a.toNat < 0x300 + s.params.maxData)) →
    runEvent (.hostWrite a v) s = .next s

/-- R21, R29, R32 to R34, R41 to R44, R49: a host write to an `RW` register is read back, cut to the register's
width and implemented bits, and every other register reads as before. -/
def Obligations.WritableRegistersReadBack : Prop :=
  ∀ (s : State) (a : Addr) (v : Word), s.Inv →
    (a ∈ [0x00A#12, 0x00B#12, 0x01D#12] → ∃ t, runEvent (.hostWrite a v) s = .next t ∧
      hostValue t a = v ∧ ∀ b, b ≠ a → hostValue t b = hostValue s b) ∧
    (a ∈ [0x00C#12, 0x018#12, 0x019#12, 0x01A#12] → ∃ t, runEvent (.hostWrite a v) s = .next t ∧
      (hostValue t a).toNat = v.toNat % 256 ∧ ∀ b, b ≠ a → hostValue t b = hostValue s b) ∧
    (a = 0x007#12 → ∃ t, runEvent (.hostWrite a v) s = .next t ∧
      (hostValue t a).toNat = v.toNat % 16 ∧ ∀ b, b ≠ a → hostValue t b = hostValue s b) ∧
    (0x100 ≤ a.toNat → a.toNat < 0x100 + s.params.maxData → ∃ t, runEvent (.hostWrite a v) s = .next t ∧
      (hostValue t a).toNat = v.toNat % 256 ∧ ∀ b, b ≠ a → hostValue t b = hostValue s b)

/-- R30, R31, R75: QUIET_MS and IFD_MS store the clamped value; R206: the write itself starts no evaluation
(nothing else changes). -/
def Obligations.IntervalWritesAreClamped : Prop :=
  ∀ (s : State) (v : Word),
    (∃ q : Word, q.toNat = max 40 (min v.toNat 150) ∧
      runEvent (.hostWrite 0x008#12 v) s = .next { s with quietMs := q }) ∧
    (∃ q : Word, q.toNat = max 30 (min v.toNat 150) ∧
      runEvent (.hostWrite 0x009#12 v) s = .next { s with ifdMs := q })

/-- R28, R265: a write of `v` to IRQ_PEND clears each bit that is 1 in `v` and changes nothing else. -/
def Obligations.IrqPendWriteOneToClear : Prop :=
  ∀ (s : State) (v : Word), ∃ t, runEvent (.hostWrite 0x006#12 v) s = .next t ∧
    (∀ i, t.irqPend.getLsbD i = (s.irqPend.getLsbD i && !v.getLsbD i)) ∧ t = { s with irqPend := t.irqPend }

/-- R47, R48: in LISTEN host writes of RXBUF and RXCNT are ignored; otherwise RXBUF[i] takes `v[7:0]` and RXCNT
takes `min(v, RXBUF_LEN)`. -/
def Obligations.ReceiveBufferHostAccess : Prop :=
  ∀ (s : State) (v : Word) (i : Nat), s.Inv → i < s.params.rxbufLen →
    (s.bt = .listen → runEvent (.hostWrite (BitVec.ofNat 12 (0x400 + i)) v) s = .next s ∧
      runEvent (.hostWrite 0x01C#12 v) s = .next s) ∧
    (s.bt ≠ .listen →
      runEvent (.hostWrite (BitVec.ofNat 12 (0x400 + i)) v) s =
        .next { s with rxBuf := s.rxBuf.set i (BitVec.ofNat 8 v.toNat) } ∧
      ∃ c : Word, c.toNat = min v.toNat s.params.rxbufLen ∧
        runEvent (.hostWrite 0x01C#12 v) s = .next { s with rxCnt := c })

/-- R24: every field of STATUS is a live view, a write of it changes nothing; right after reset it reads 0x0010. -/
def Obligations.StatusIsLiveView : Prop :=
  (∀ s : State,
    (hostValue s 0x002#12).toNat % 4 = (match s.bt with | .idle => 0 | .wait => 1 | .tx => 2 | .listen => 3) ∧
    (hostValue s 0x002#12).getLsbD 2 = s.te ∧
    ((hostValue s 0x002#12).getLsbD 3 = true ↔ s.quietMs.toNat ≤ s.idleMs.toNat) ∧
    ((hostValue s 0x002#12).getLsbD 4 = true ↔ s.ifdMs.toNat ≤ s.ifdElapsed.toNat) ∧
    (hostValue s 0x002#12).getLsbD 5 = s.rxOvf ∧
    (∀ i, 6 ≤ i → (hostValue s 0x002#12).getLsbD i = false) ∧
    ∀ v : Word, runEvent (.hostWrite 0x002#12 v) s = .next s) ∧
  hostValue State.reset 0x002#12 = 0x0010

/-- R61, R264: `irq` is 1 exactly when some bit [3:0] is set in both IRQ_PEND and IRQ_EN; it is 0 after reset. -/
def Obligations.IrqIsLevelOfEnabledPending : Prop :=
  (∀ s : State, s.irq = true ↔ ∃ i < 4, s.irqPend.getLsbD i = true ∧ s.irqEn.getLsbD i = true) ∧
  State.reset.irq = false

/-! ## Acceptance of a command -/

/-- R102: an illegal CMD value writes OP_STATUS and OPERR; no other state changes. -/
def Obligations.IllegalCommandOnlyReports : Prop :=
  ∀ (s : State) (v : Word), 16 ≤ v.toNat ∨ 6 ≤ v.toNat % 16 →
    runEvent (.hostWrite 0x000#12 v) s = .next { s with
      opStatus := BitVec.ofNat 16 (9 + 16 * (v.toNat % 16)), irqPend := s.irqPend ||| 0x0004 }

/-- R207 with R103: which operation is refused in which BT_STATE; a refused one writes OP_STATUS and OPERR and
has no other effect; an accepted one is answered OK. -/
def Obligations.BusyRules : Prop :=
  ∀ s : State,
    (s.bt = .wait ∨ s.bt = .tx → exec .encode s =
      .next { s with opStatus := 0x0018, irqPend := s.irqPend ||| 0x0004 }) ∧
    (s.bt ≠ .idle → exec .transmit s =
      .next { s with opStatus := 0x0038, irqPend := s.irqPend ||| 0x0004 }) ∧
    (s.bt ≠ .idle → exec .listen s =
      .next { s with opStatus := 0x0048, irqPend := s.irqPend ||| 0x0004 }) ∧
    (s.bt = .tx → exec .cancel s =
      .next { s with opStatus := 0x0058, irqPend := s.irqPend ||| 0x0004 }) ∧
    (∃ t, exec .nop s = .next t ∧ t.opStatus = 0x0001) ∧
    (∃ t, exec .decode s = .next t ∧ t.opStatus = 0x0021) ∧
    (∃ t, exec .nop s = .next t ∧ t.opStatus = 0x0001) ∧
    (∃ t, exec .decode s = .next t ∧ t.opStatus = 0x0021) ∧
    (s.bt = .idle ∨ s.bt = .listen → ∃ t, exec .encode s = .next t ∧ t.opStatus = 0x0011) ∧
    (s.bt = .idle → ∃ t, exec .transmit s = .next t ∧ t.opStatus = 0x0031) ∧
    (s.bt = .idle → ∃ t, exec .listen s = .next t ∧ t.opStatus = 0x0041) ∧
    (s.bt ≠ .tx → ∃ t, exec .cancel s = .next t ∧ t.opStatus = 0x0051)

/-- R203: NOP writes OP_STATUS = 0x0001 and nothing else, in every state. -/
def Obligations.NopWritesOpStatusOnly : Prop :=
  ∀ s : State, exec .nop s = .next { s with opStatus := 0x0001 }

/-- R110: the five frame command bytes, as the host's placing of the byte in ENC_CMD; that this is what the
rows do is the model's reading, log 5. Nothing else changes. -/
def Obligations.FrameCommandsPlaceTheirByte : Prop :=
  ∀ s : State,
    exec .frameTakeover s = .next { s with encCmd := 0x00 } ∧
    exec .frameSetOutput s = .next { s with encCmd := 0x11 } ∧
    exec .frameReadSalinity s = .next { s with encCmd := 0x12 } ∧
    exec .frameGetVersion s = .next { s with encCmd := 0x14 } ∧
    exec .frameGetTemperature s = .next { s with encCmd := 0x15 }

/-! ## The Frame Codec -/

/-- R142, R106, R107: the wire frame byte by byte, with the truncated sum. -/
def Obligations.EncodedFrameLayout : Prop :=
  ∀ (seed dest cmd : Byte) (data : List Byte),
    (encodeFrame seed dest cmd data).length = data.length + 7 ∧
    (encodeFrame seed dest cmd data)[0]? = some 0x10 ∧ (encodeFrame seed dest cmd data)[1]? = some 0x02 ∧
    (encodeFrame seed dest cmd data)[2]? = some dest ∧ (encodeFrame seed dest cmd data)[3]? = some cmd ∧
    (∀ i, i < data.length → (encodeFrame seed dest cmd data)[4 + i]? = data[i]?) ∧
    (∃ c : Byte, (encodeFrame seed dest cmd data)[4 + data.length]? = some c ∧
      c.toNat = (seed.toNat + dest.toNat + cmd.toNat + (data.map BitVec.toNat).sum) % 256) ∧
    (encodeFrame seed dest cmd data)[5 + data.length]? = some 0x10 ∧
    (encodeFrame seed dest cmd data)[6 + data.length]? = some 0x03

/-- R143: an accepted ENCODE with ENC_DLEN ≤ MAX_DATA builds the frame in TXBUF, keeps TXBUF above it, flags a
frame that is not transparent (R144), and changes nothing else. -/
def Obligations.EncodeBuildsFrame : Prop :=
  ∀ s : State, s.Inv → s.bt = .idle ∨ s.bt = .listen → s.encDlen.toNat ≤ s.params.maxData →
    ∃ t, exec .encode s = .next t ∧
      t = { s with opStatus := 0x0011, encStatus := t.encStatus, txLen := t.txLen, txBuf := t.txBuf } ∧
      t.txLen.toNat = s.encDlen.toNat + 7 ∧
      (∀ i, i < s.encDlen.toNat + 7 → t.txBuf[i]? =
        (encodeFrame s.ckSeed s.encDest s.encCmd (s.encData.take s.encDlen.toNat))[i]?) ∧
      (∀ i, s.encDlen.toNat + 7 ≤ i → t.txBuf[i]? = s.txBuf[i]?) ∧
      (Transparent (payload s.ckSeed s.encDest s.encCmd (s.encData.take s.encDlen.toNat)) →
        t.encStatus = 0x0001) ∧
      (¬ Transparent (payload s.ckSeed s.encDest s.encCmd (s.encData.take s.encDlen.toNat)) →
        t.encStatus = 0x0011)

/-- R145: with ENC_DLEN > MAX_DATA an accepted ENCODE writes TXLEN = 0 and INVALID_PAYLOAD and nothing else, and
a TRANSMIT after it fails with INVALID_PAYLOAD before any bus activity. -/
def Obligations.EncodeTooLongLeavesNoFrame : Prop :=
  ∀ s : State, s.params.maxData < s.encDlen.toNat →
    (s.bt = .idle ∨ s.bt = .listen →
      exec .encode s = .next { s with opStatus := 0x0011, txLen := 0, encStatus := 0x0004 }) ∧
    (s.Inv → s.bt = .idle → ∃ t, exec .encode s = .next t ∧
      exec .transmit t = .next { t with
        opStatus := 0x0031, btStatus := 0x0004, irqPend := t.irqPend ||| 0x0001 })

/-- R147: the window is RXBUF[DEC_OFF .. RXCNT-1], of length max(0, RXCNT - DEC_OFF). -/
def Obligations.DecodeWindowIsBufferSlice : Prop :=
  ∀ s : State, s.Inv →
    s.decodeInput.length = s.rxCnt.toNat - s.decOff.toNat ∧
    ∀ i, s.decOff.toNat + i < s.rxCnt.toNat → s.decodeInput[i]? = s.rxBuf[s.decOff.toNat + i]?

/-- R146 with R147, R149 to R152: what DecodeWindow answers, by the first header, the first footer after it,
the length of the candidate payload, and the checksum. -/
def Obligations.DecodeWindowOutcomes : Prop :=
  ∀ (win : List Byte) (seed : Byte) (maxd : Nat),
    (win.length < 7 → decodeWindow win seed maxd = ⟨.incomplete, .shortWindow, none, none, none⟩) ∧
    (7 ≤ win.length → NoPairFrom 0x10 0x02 win 0 →
      decodeWindow win seed maxd = ⟨.incomplete, .noHeader, none, none, none⟩) ∧
    (∀ h, 7 ≤ win.length → FirstPairAt 0x10 0x02 win 0 h → NoPairFrom 0x10 0x03 win (h + 2) →
      decodeWindow win seed maxd = ⟨.incomplete, .noFooter, some h, none, none⟩) ∧
    (∀ h f, 7 ≤ win.length → FirstPairAt 0x10 0x02 win 0 h → FirstPairAt 0x10 0x03 win (h + 2) f →
      (f - (h + 2) < 3 →
        decodeWindow win seed maxd = ⟨.checksumMismatch, .runt, some h, some (f + 2), none⟩) ∧
      (maxd + 3 < f - (h + 2) →
        decodeWindow win seed maxd = ⟨.checksumMismatch, .overlong, some h, some (f + 2), none⟩) ∧
      (3 ≤ f - (h + 2) → f - (h + 2) ≤ maxd + 3 → ∃ dest cmd rck, win[h + 2]? = some dest ∧
        win[h + 3]? = some cmd ∧ win[f - 1]? = some rck ∧
        ((checksum seed dest cmd ((win.drop (h + 4)).take (f - h - 5)) = rck ∧
          decodeWindow win seed maxd = ⟨.ok, .noDetail, some h, some (f + 2),
            some ⟨dest, cmd, (win.drop (h + 4)).take (f - h - 5), rck, rck⟩⟩) ∨
        (checksum seed dest cmd ((win.drop (h + 4)).take (f - h - 5)) ≠ rck ∧
          decodeWindow win seed maxd = ⟨.checksumMismatch, .badSum, some h, some (f + 2),
            some ⟨dest, cmd, (win.drop (h + 4)).take (f - h - 5), rck,
              checksum seed dest cmd ((win.drop (h + 4)).take (f - h - 5))⟩⟩))))

/-- R146, R148, R153: an accepted DECODE writes DEC_STATUS and the RES_* registers from DecodeWindow's answer,
0 where it defines none, and nothing else but OP_STATUS; it is never refused. -/
def Obligations.DecodeWritesResults : Prop :=
  ∀ (s : State) (r : DecodeResult), s.Inv → r = decodeWindow s.decodeInput s.ckSeed s.params.maxData →
    ∃ t, exec .decode s = .next t ∧
      t = { s with opStatus := 0x0021, decStatus := t.decStatus, res := t.res } ∧
      t.decStatus.toNat = r.code.bits.toNat + 16 * r.detail.bits.toNat ∧
      t.res.start.toNat = (match r.start with | none => 0 | some h => s.decOff.toNat + h) ∧
      t.res.stop.toNat = (match r.stop with | none => 0 | some f => s.decOff.toNat + f) ∧
      t.res.data.length = s.params.maxData ∧
      (match r.fields with
        | none => t.res.dest = 0 ∧ t.res.cmd = 0 ∧ t.res.dlen = 0 ∧ t.res.ck = 0 ∧ t.res.calcSum = 0 ∧
            ∀ b ∈ t.res.data, b = 0
        | some f => t.res.dest = f.dest ∧ t.res.cmd = f.cmd ∧ t.res.dlen.toNat = f.data.length ∧
            t.res.ck = f.rck ∧ t.res.calcSum = f.calcSum ∧ t.res.data.take f.data.length = f.data ∧
            ∀ b ∈ t.res.data.drop f.data.length, b = 0)

/-- R155, first part: a transparent frame decodes back to itself, for every seed. -/
def Obligations.TransparentFrameRoundTrips : Prop :=
  ∀ (seed dest cmd : Byte) (data : List Byte) (maxd : Nat), data.length ≤ maxd →
    Transparent (payload seed dest cmd data) →
    decodeWindow (encodeFrame seed dest cmd data) seed maxd =
      ⟨.ok, .noDetail, some 0, some (data.length + 7),
        some ⟨dest, cmd, data, checksum seed dest cmd data, checksum seed dest cmd data⟩⟩

/-- R155, second part: for a frame that is not transparent the first inner footer wins, and the result is RUNT,
BAD_SUM, or OK with a different frame. -/
def Obligations.NonTransparentFrameNeverRoundTrips : Prop :=
  ∀ (seed dest cmd : Byte) (data : List Byte) (maxd : Nat), data.length ≤ maxd →
    ∀ j, FirstPairAt 0x10 0x03 (payload seed dest cmd data) 0 j →
      (decodeWindow (encodeFrame seed dest cmd data) seed maxd).start = some 0 ∧
      (decodeWindow (encodeFrame seed dest cmd data) seed maxd).stop = some (j + 4) ∧
      ((decodeWindow (encodeFrame seed dest cmd data) seed maxd).detail = .runt ∨
       (decodeWindow (encodeFrame seed dest cmd data) seed maxd).detail = .badSum ∨
       ((decodeWindow (encodeFrame seed dest cmd data) seed maxd).code = .ok ∧
        ∃ f, (decodeWindow (encodeFrame seed dest cmd data) seed maxd).fields = some f ∧
          f.data.length < data.length))

/-- R154: a result other than INCOMPLETE is final, however the window grows. -/
def Obligations.FinalResultSurvivesMoreBytes : Prop :=
  ∀ (w more : List Byte) (seed : Byte) (maxd : Nat),
    (decodeWindow w seed maxd).code ≠ .incomplete →
      decodeWindow (w ++ more) seed maxd = decodeWindow w seed maxd

/-- R156: a flip of one bit of one candidate-payload byte of a transparent frame that leaves the header and
footer positions unchanged gives BAD_SUM; a flip that creates an inner footer may give OK. -/
def Obligations.SingleBitFlipIsBadSum : Prop :=
  (∀ (seed dest cmd : Byte) (data : List Byte) (maxd i k : Nat) (b : Byte), data.length ≤ maxd →
    Transparent (payload seed dest cmd data) → 2 ≤ i → i < data.length + 5 → k < 8 →
    (encodeFrame seed dest cmd data)[i]? = some b →
    (decodeWindow ((encodeFrame seed dest cmd data).set i (b ^^^ BitVec.twoPow 8 k)) seed maxd).start =
      some 0 →
    (decodeWindow ((encodeFrame seed dest cmd data).set i (b ^^^ BitVec.twoPow 8 k)) seed maxd).stop =
      some (data.length + 7) →
    (decodeWindow ((encodeFrame seed dest cmd data).set i (b ^^^ BitVec.twoPow 8 k)) seed maxd).code =
      .checksumMismatch ∧
    (decodeWindow ((encodeFrame seed dest cmd data).set i (b ^^^ BitVec.twoPow 8 k)) seed maxd).detail =
      .badSum) ∧
  ∃ (seed dest cmd : Byte) (data : List Byte) (i k : Nat) (b : Byte), data.length ≤ 29 ∧
    Transparent (payload seed dest cmd data) ∧ 2 ≤ i ∧ i < data.length + 5 ∧ k < 8 ∧
    (encodeFrame seed dest cmd data)[i]? = some b ∧
    (decodeWindow ((encodeFrame seed dest cmd data).set i (b ^^^ BitVec.twoPow 8 k)) seed 29).code = .ok

/-- R146 and R155 on the machine: DECODE of a window that begins with an encoded transparent frame, whatever
follows it, reports that frame in the result registers, and changes nothing else but OP_STATUS. -/
def Obligations.DecodeReadsEncodedFrame : Prop :=
  ∀ (s : State) (dest cmd : Byte) (data more : List Byte), s.Inv → data.length ≤ s.params.maxData →
    Transparent (payload s.ckSeed dest cmd data) →
    s.decodeInput = encodeFrame s.ckSeed dest cmd data ++ more →
    exec .decode s = .next { s with
      opStatus := 0x0021, decStatus := 0x0001
      res := { dest := dest, cmd := cmd, dlen := BitVec.ofNat 8 data.length,
               ck := checksum s.ckSeed dest cmd data, calcSum := checksum s.ckSeed dest cmd data,
               start := s.decOff, stop := s.decOff + BitVec.ofNat 16 (data.length + 7),
               data := data ++ List.replicate (s.params.maxData - data.length) 0 } }

/-! ## Bus timing -/

/-- R191 to R193: every outcome of an accepted TRANSMIT in its own event: INVALID_PAYLOAD, start of the
transmission, BUS_BUSY at once, or WAIT. -/
def Obligations.TransmitOutcomes : Prop :=
  ∀ s : State, s.bt = .idle →
    (s.txLen = 0 → exec .transmit s = .next { s with
      opStatus := 0x0031, te := false, btStatus := 0x0004, irqPend := s.irqPend ||| 0x0001 }) ∧
    (s.txLen ≠ 0 → s.quietMs.toNat ≤ s.idleMs.toNat ∧ s.ifdMs.toNat ≤ s.ifdElapsed.toNat →
      exec .transmit s = .next { s with
        opStatus := 0x0031, btTimer := 0, te := true, bt := .tx, txIdx := 0 }) ∧
    (s.txLen ≠ 0 → ¬ (s.quietMs.toNat ≤ s.idleMs.toNat ∧ s.ifdMs.toNat ≤ s.ifdElapsed.toNat) →
      s.busyWaitMs = 0 → exec .transmit s = .next { s with
        opStatus := 0x0031, btTimer := 0, te := false, btStatus := 0x0007, irqPend := s.irqPend ||| 0x0001 }) ∧
    (s.txLen ≠ 0 → ¬ (s.quietMs.toNat ≤ s.idleMs.toNat ∧ s.ifdMs.toNat ≤ s.ifdElapsed.toNat) →
      s.busyWaitMs ≠ 0 → exec .transmit s = .next { s with opStatus := 0x0031, btTimer := 0, bt := .wait })

/-- R196, R197, R205: an accepted LISTEN opens a fresh window, or, with LISTEN_MS = 0, closes it in the same
event with TIMEOUT. -/
def Obligations.ListenOutcomes : Prop :=
  ∀ s : State, s.bt = .idle →
    (s.listenMs ≠ 0 → exec .listen s = .next { s with
      opStatus := 0x0041, rxCnt := 0, decOff := 0, rxOvf := false, btTimer := 0, bt := .listen }) ∧
    (s.listenMs = 0 → exec .listen s = .next { s with
      opStatus := 0x0041, rxCnt := 0, decOff := 0, rxOvf := false, btTimer := 0, btStatus := 0x0015,
      irqPend := s.irqPend ||| 0x0002 })

/-- R202, R204, R205: CANCEL does nothing in IDLE, ends a WAIT or a LISTEN with CANCELLED, and is refused in
TX. -/
def Obligations.CancelOutcomes : Prop :=
  ∀ s : State,
    (s.bt = .idle → exec .cancel s = .next { s with opStatus := 0x0051 }) ∧
    (s.bt = .wait → exec .cancel s = .next { s with
      opStatus := 0x0051, bt := .idle, te := false, btStatus := 0x0006, irqPend := s.irqPend ||| 0x0001 }) ∧
    (s.bt = .listen → exec .cancel s = .next { s with
      opStatus := 0x0051, bt := .idle, btStatus := 0x0016, irqPend := s.irqPend ||| 0x0002 }) ∧
    (s.bt = .tx → exec .cancel s = .next { s with opStatus := 0x0058, irqPend := s.irqPend ||| 0x0004 })

/-- R201 with R192, R197: a TICK in TX changes nothing, in IDLE it advances the two line counters, in WAIT and
LISTEN also BT_TIMER, and then the gate or the window's end is evaluated, the start before the give-up. -/
def Obligations.TickOutcomes : Prop :=
  ∀ (s : State) (idle ifd tmr : Word), s.Inv →
    idle.toNat = min (s.idleMs.toNat + 1) 0xFFFF → ifd.toNat = min (s.ifdElapsed.toNat + 1) 0xFFFF →
    tmr.toNat = min (s.btTimer.toNat + 1) 0xFFFF →
    (s.bt = .tx → runEvent .tick s = .next s) ∧
    (s.bt = .idle → runEvent .tick s = .next { s with idleMs := idle, ifdElapsed := ifd }) ∧
    (s.bt = .wait → s.quietMs ≤ idle ∧ s.ifdMs ≤ ifd → runEvent .tick s = .next { s with
      idleMs := idle, ifdElapsed := ifd, btTimer := tmr, te := true, bt := .tx, txIdx := 0 }) ∧
    (s.bt = .wait → ¬ (s.quietMs ≤ idle ∧ s.ifdMs ≤ ifd) → s.busyWaitMs ≤ tmr →
      runEvent .tick s = .next { s with
        idleMs := idle, ifdElapsed := ifd, btTimer := tmr, bt := .idle, btStatus := 0x0007,
        irqPend := s.irqPend ||| 0x0001 }) ∧
    (s.bt = .wait → ¬ (s.quietMs ≤ idle ∧ s.ifdMs ≤ ifd) → ¬ s.busyWaitMs ≤ tmr →
      runEvent .tick s = .next { s with idleMs := idle, ifdElapsed := ifd, btTimer := tmr }) ∧
    (s.bt = .listen → s.listenMs ≤ tmr → runEvent .tick s = .next { s with
      idleMs := idle, ifdElapsed := ifd, btTimer := tmr, bt := .idle,
      btStatus := if s.rxCnt = 0 then 0x0015 else 0x0011, irqPend := s.irqPend ||| 0x0002 }) ∧
    (s.bt = .listen → ¬ s.listenMs ≤ tmr → runEvent .tick s = .next { s with
      idleMs := idle, ifdElapsed := ifd, btTimer := tmr })

/-- R198 to R200: a received byte restarts the quiet interval; in a listen window it is appended, or dropped
with the overflow flags when RXBUF is full; outside one it is discarded. While TE = 1 it is not seen at all
(that a pending RX event is then consumed is the model's choice, log 4). -/
def Obligations.ReceiveOutcomes : Prop :=
  ∀ (s : State) (b : Byte),
    (s.te = true → runEvent (.rx b) s = .next s) ∧
    (s.te = false → s.bt ≠ .listen → runEvent (.rx b) s = .next { s with idleMs := 0 }) ∧
    (s.te = false → s.bt = .listen → s.rxCnt.toNat < s.params.rxbufLen → runEvent (.rx b) s = .next { s with
      idleMs := 0, rxBuf := s.rxBuf.set s.rxCnt.toNat b, rxCnt := s.rxCnt + 1 }) ∧
    (s.te = false → s.bt = .listen → s.params.rxbufLen ≤ s.rxCnt.toNat → runEvent (.rx b) s = .next { s with
      idleMs := 0, rxOvf := true, irqPend := s.irqPend ||| 0x0008 })

/-- R194, R195, R204: TXACCEPT hands over TXBUF[TX_IDX], TXDRAIN ends the transmission OK and restarts both
measurements. Where they are not enabled nothing happens (log 4). -/
def Obligations.TransportOutcomes : Prop :=
  ∀ s : State, s.Inv →
    (∀ b, s.bt = .tx → s.txIdx.toNat < s.txLen.toNat → s.txBuf[s.txIdx.toNat]? = some b →
      runEvent .txAccept s = .next { s with wire := s.wire ++ [b], txIdx := s.txIdx + 1 }) ∧
    (¬ (s.bt = .tx ∧ s.txIdx.toNat < s.txLen.toNat) → runEvent .txAccept s = .next s) ∧
    (s.bt = .tx → s.txIdx.toNat = s.txLen.toNat → runEvent .txDrain s = .next { s with
      te := false, idleMs := 0, ifdElapsed := 0, bt := .idle, btStatus := 0x0001,
      irqPend := s.irqPend ||| 0x0001 }) ∧
    (¬ (s.bt = .tx ∧ s.txIdx.toNat = s.txLen.toNat) → runEvent .txDrain s = .next s)

/-- R190: BT_STATE changes only as the table says; TX is left only by TXDRAIN or RESET. -/
def Obligations.SequencerTransitions : Prop :=
  ∀ (e : Event) (s t : State), runEvent e s = .next t → t.bt ≠ s.bt →
    (s.bt = .idle ∧ e = .hostWrite 0x000#12 0x0003 ∧ s.txLen ≠ 0 ∧ (t.bt = .wait ∨ t.bt = .tx)) ∨
    (s.bt = .idle ∧ e = .hostWrite 0x000#12 0x0004 ∧ s.listenMs ≠ 0 ∧ t.bt = .listen) ∨
    (s.bt = .wait ∧ e = .tick ∧ t.bt = .tx ∧ t.te = true ∧ t.quietMs ≤ t.idleMs ∧ t.ifdMs ≤ t.ifdElapsed) ∨
    (s.bt = .wait ∧ e = .tick ∧ t.bt = .idle ∧ t.busyWaitMs ≤ t.btTimer ∧ t.btStatus = 0x0007 ∧
      t.irqPend = s.irqPend ||| 0x0001) ∨
    (s.bt = .wait ∧ e = .hostWrite 0x000#12 0x0005 ∧ t.bt = .idle ∧ t.btStatus = 0x0006 ∧
      t.irqPend = s.irqPend ||| 0x0001) ∨
    (s.bt = .tx ∧ e = .txDrain ∧ s.txIdx.toNat = s.txLen.toNat ∧ t.bt = .idle ∧ t.te = false ∧
      t.btStatus = 0x0001 ∧ t.irqPend = s.irqPend ||| 0x0001) ∨
    (s.bt = .listen ∧ e = .tick ∧ t.bt = .idle ∧ t.listenMs ≤ t.btTimer ∧
      t.btStatus = (if t.rxCnt = 0 then 0x0015 else 0x0011) ∧ t.irqPend = s.irqPend ||| 0x0002) ∨
    (s.bt = .listen ∧ e = .hostWrite 0x000#12 0x0005 ∧ t.bt = .idle ∧ t.btStatus = 0x0016 ∧
      t.irqPend = s.irqPend ||| 0x0002) ∨
    (e = .reset ∧ t.bt = .idle)

/-- R80: TXBUF and TXLEN are written by an ENCODE outside WAIT and TX only, and in LISTEN only RX writes RXBUF
and RXCNT (RESET apart, R300). -/
def Obligations.BufferOwnership : Prop :=
  ∀ (e : Event) (s t : State), runEvent e s = .next t →
    (t.txBuf ≠ s.txBuf ∨ t.txLen ≠ s.txLen →
      (e = .hostWrite 0x000#12 0x0001 ∧ s.bt ≠ .wait ∧ s.bt ≠ .tx) ∨ e = .reset) ∧
    (s.bt = .listen → t.rxBuf ≠ s.rxBuf ∨ t.rxCnt ≠ s.rxCnt → (∃ b, e = .rx b) ∨ e = .reset)

/-- R263, R266: which event sets which bit of IRQ_PEND; no event sets more than one. -/
def Obligations.InterruptSources : Prop :=
  ∀ (e : Event) (s t : State), runEvent e s = .next t →
    ∀ i, t.irqPend.getLsbD i = true → s.irqPend.getLsbD i = false →
      (∀ j, t.irqPend.getLsbD j = true → s.irqPend.getLsbD j = false → j = i) ∧
      ((i = 0 ∧ t.bt = .idle ∧ (t.btStatus = 0x0001 ∨ t.btStatus = 0x0004 ∨ t.btStatus = 0x0006 ∨
          t.btStatus = 0x0007) ∧
        (e = .hostWrite 0x000#12 0x0003 ∨ e = .hostWrite 0x000#12 0x0005 ∨ e = .tick ∨ e = .txDrain)) ∨
       (i = 1 ∧ t.bt = .idle ∧ (t.btStatus = 0x0011 ∨ t.btStatus = 0x0015 ∨ t.btStatus = 0x0016) ∧
        (e = .hostWrite 0x000#12 0x0004 ∨ e = .hostWrite 0x000#12 0x0005 ∨ e = .tick)) ∨
       (i = 2 ∧ (t.opStatus.toNat % 16 = 8 ∨ t.opStatus.toNat % 16 = 9) ∧ ∃ v, e = .hostWrite 0x000#12 v) ∨
       (i = 3 ∧ s.bt = .listen ∧ s.params.rxbufLen ≤ s.rxCnt.toNat ∧ ∃ b, e = .rx b))

/-- R321: in IDLE no TICK, RX or Transport event changes anything except IDLE_MS and IFD_ELAPSED. -/
def Obligations.QuiescentBlockOnlyCounts : Prop :=
  ∀ (e : Event) (s t : State), s.bt = .idle → isSequencerEvent e = true → runEvent e s = .next t →
    t = { s with idleMs := t.idleMs, ifdElapsed := t.ifdElapsed }

/-- R210: the sequencer's behaviour does not depend on the value of any byte sent or received. -/
def Obligations.SequencerIgnoresByteValues : Prop :=
  ∀ s s' t t' : State, s.withoutBytes = s'.withoutBytes →
    (∀ e : Event, isSequencerEvent e = true → runEvent e s = .next t → runEvent e s' = .next t' →
      t.withoutBytes = t'.withoutBytes) ∧
    (∀ b b' : Byte, runEvent (.rx b) s = .next t → runEvent (.rx b') s' = .next t' →
      t.withoutBytes = t'.withoutBytes) ∧
    (∀ i : Instr, i = .transmit ∨ i = .listen ∨ i = .cancel ∨ i = .nop →
      exec i s = .next t → exec i s' = .next t' → t.withoutBytes = t'.withoutBytes)

/-- R194, R195, R76: from the start of a transmission to its TXDRAIN, exactly TXBUF[0..TXLEN-1] is handed over, in
order, whatever else happens meanwhile; the drain leaves receive direction. The list of bytes handed over is
the model's own (log 6). -/
def Obligations.TransmissionSendsWholeFrame : Prop :=
  ∀ (s t u : State) (es : List Event), s.Inv → s.txIdx = 0 → RunIn (fun x => x.bt = .tx) s es t →
    runEvent .txDrain t = .next u → u.bt ≠ .tx →
    u.wire = s.wire ++ s.txBuf.take s.txLen.toNat ∧ u.bt = .idle ∧ u.te = false ∧ u.btStatus = 0x0001

/-- R208: when a transmission starts, at least QUIET_MS TICKs have occurred since any received byte, any end of
a transmission and any RESET. -/
def Obligations.QuietIntervalBeforeStart : Prop :=
  ∀ (x e : Event) (s s' t u : State) (es : List Event),
    (∃ b, x = .rx b ∧ s.te = false) ∨ (x = .txDrain ∧ s.txDrained = true) ∨ x = .reset →
    runEvent x s = .next s' → Run s' es t → t.bt ≠ .tx → runEvent e t = .next u → u.bt = .tx →
    u.quietMs.toNat ≤ ticks (es ++ [e])

/-- R209: between the TXDRAIN of one transmission and the start of the next, at least IFD_MS TICKs occur, with
the value IFD_MS has at the start; a RESET between them, after which no transmission has happened yet (R38),
is excluded. -/
def Obligations.InterFrameDelayBeforeStart : Prop :=
  ∀ (e : Event) (s s' t u : State) (es : List Event), s.txDrained = true →
    runEvent .txDrain s = .next s' → Run s' es t → .reset ∉ es → t.bt ≠ .tx → runEvent e t = .next u →
    u.bt = .tx → u.ifdMs.toNat ≤ ticks (es ++ [e])

/-- R212 for WAIT: while a TRANSMIT waits and BUSY_WAIT_MS is not raised above `lim`, fewer than `lim` TICKs
occur since it began. -/
def Obligations.WaitIsBounded : Prop :=
  ∀ (s t : State) (es : List Event) (lim : Nat), s.btTimer = 0 →
    RunIn (fun x => x.bt = .wait ∧ x.busyWaitMs.toNat ≤ lim) s es t → ticks es ≠ 0 → ticks es < lim

/-- R212 for LISTEN: while a window is open and LISTEN_MS is not raised above `lim`, fewer than `lim` TICKs occur
since it opened. -/
def Obligations.ListenIsBounded : Prop :=
  ∀ (s t : State) (es : List Event) (lim : Nat), s.btTimer = 0 →
    RunIn (fun x => x.bt = .listen ∧ x.listenMs.toNat ≤ lim) s es t → ticks es ≠ 0 → ticks es < lim

/-- Every instruction's word is a defined encoding of the table (R100, R101, R110). -/
def Obligations.EveryEncodedWordIsDefined : Prop := ∀ i : Instr, Laws.EncodedWord.Statement i
end

