-- ==== Sys2Proof/Laws/Codec.lean ====
section
/-! SUPPORT. What the codec's functions do, said once: the checksum, the pair search of the header and footer
rules, and the lengths of frames. -/

namespace Sys2Proof.Machine

theorem checksum_toNat (seed dest cmd : Byte) (data : List Byte) :
    (checksum seed dest cmd data).toNat =
      (seed.toNat + dest.toNat + cmd.toNat + (data.map BitVec.toNat).sum) % 256 := by
  simp [checksum]

@[simp] theorem payload_length (seed dest cmd : Byte) (data : List Byte) :
    (payload seed dest cmd data).length = data.length + 3 := by
  simp only [payload, List.length_append, List.length_cons, List.length_nil]; omega

@[simp] theorem encodeFrame_length (seed dest cmd : Byte) (data : List Byte) :
    (encodeFrame seed dest cmd data).length = data.length + 7 := by
  simp only [encodeFrame, List.length_append, List.length_cons, List.length_nil]; omega

theorem encodeFrame_eq_payload (seed dest cmd : Byte) (data : List Byte) :
    encodeFrame seed dest cmd data =
      [markByte, headerByte] ++ payload seed dest cmd data ++ [markByte, footerByte] := by
  simp [encodeFrame, payload]

theorem firstPairAt_succ {a b x : Byte} {l : List Byte} {k : Nat}
    (h0 : ¬ ((x :: l)[0]? = some a ∧ (x :: l)[1]? = some b)) :
    FirstPairAt a b (x :: l) 0 (k + 1) ↔ FirstPairAt a b l 0 k := by
  constructor
  · rintro ⟨-, h1, h2, h3⟩
    exact ⟨Nat.zero_le _, by simpa using h1, by simpa using h2,
      fun j _ hj => by simpa using h3 (j + 1) (Nat.zero_le _) (by omega)⟩
  · rintro ⟨-, h1, h2, h3⟩
    refine ⟨Nat.zero_le _, by simpa using h1, by simpa using h2, fun j _ hj => ?_⟩
    cases j with
    | zero => exact h0
    | succ j => simpa using h3 j (Nat.zero_le _) (by omega)

/-- The pair search finds the first pair, and only that. -/
theorem findPair_eq_some {a b : Byte} : ∀ {l : List Byte} {k : Nat},
    findPair a b l = some k ↔ FirstPairAt a b l 0 k
  | [], k => by simp [findPair, FirstPairAt]
  | [x], k => by simp [findPair, FirstPairAt]
  | x :: y :: l, k => by
    by_cases h : x = a ∧ y = b
    · simp only [findPair, h, and_self, if_true, Option.some.injEq]
      constructor
      · rintro rfl; exact ⟨Nat.zero_le _, by simp, by simp, fun j _ hj => by omega⟩
      · rintro ⟨-, -, -, h3⟩
        by_contra hk
        exact h3 0 (Nat.zero_le _) (by omega) (by simp)
    · have h0 : ¬ ((x :: y :: l)[0]? = some a ∧ (x :: y :: l)[1]? = some b) := by simpa using h
      simp only [findPair, h, if_false, Option.map_eq_some_iff]
      cases k with
      | zero => simpa [FirstPairAt] using h
      | succ k =>
        rw [firstPairAt_succ h0, ← findPair_eq_some (l := y :: l)]
        simp

/-- The pair search finds nothing exactly where there is no pair. -/
theorem findPair_eq_none {a b : Byte} {l : List Byte} : findPair a b l = none ↔ NoPairFrom a b l 0 := by
  constructor
  · intro h j _ hj
    have hex : ∃ j, l[j]? = some a ∧ l[j + 1]? = some b := ⟨j, hj⟩
    classical
    have hf : FirstPairAt a b l 0 (Nat.find hex) :=
      ⟨Nat.zero_le _, (Nat.find_spec hex).1, (Nat.find_spec hex).2, fun i _ hi => Nat.find_min hex hi⟩
    rw [← findPair_eq_some, h] at hf
    cases hf
  · intro h
    cases hk : findPair a b l with
    | none => rfl
    | some k =>
      have hf := findPair_eq_some.1 hk
      exact absurd ⟨hf.2.1, hf.2.2.1⟩ (h k (Nat.zero_le _))

/-- WARN_FOOTER's test is the negation of transparency (R144, R109). -/
theorem notTransparent_eq_false {p : List Byte} : notTransparent p = false ↔ Transparent p := by
  simp only [notTransparent, Option.isSome_eq_false_iff, Option.isNone_iff_eq_none, findPair_eq_none,
    Transparent, markByte, footerByte]

/-- A first pair at or above `h` is a first pair of the rest of the window. -/
theorem firstPairAt_drop {a b : Byte} {win : List Byte} {h k : Nat} :
    FirstPairAt a b win h k ↔ h ≤ k ∧ FirstPairAt a b (win.drop h) 0 (k - h) := by
  unfold FirstPairAt
  constructor
  · rintro ⟨h0, h1, h2, h3⟩
    refine ⟨h0, Nat.zero_le _, ?_, ?_, fun j _ hj => ?_⟩
    · simpa [List.getElem?_drop, h0] using h1
    · rw [List.getElem?_drop, show h + (k - h + 1) = k + 1 by omega]; exact h2
    · rw [List.getElem?_drop, List.getElem?_drop, ← Nat.add_assoc]; exact h3 (h + j) (by omega) (by omega)
  · rintro ⟨h0, -, h1, h2, h3⟩
    refine ⟨h0, ?_, ?_, fun j hj1 hj2 => ?_⟩
    · simpa [List.getElem?_drop, h0] using h1
    · rw [List.getElem?_drop, show h + (k - h + 1) = k + 1 by omega] at h2; exact h2
    · have hn := h3 (j - h) (Nat.zero_le _) (by omega)
      rw [List.getElem?_drop, List.getElem?_drop, show h + (j - h) = j by omega,
        show h + (j - h + 1) = j + 1 by omega] at hn
      exact hn

/-- No pair at or above `h` is no pair in the rest of the window. -/
theorem noPairFrom_drop {a b : Byte} {win : List Byte} {h : Nat} :
    NoPairFrom a b win h ↔ NoPairFrom a b (win.drop h) 0 := by
  unfold NoPairFrom
  constructor
  · intro H j _
    rw [List.getElem?_drop, List.getElem?_drop, ← Nat.add_assoc]; exact H _ (by omega)
  · intro H j hj
    have hn := H (j - h) (Nat.zero_le _)
    rw [List.getElem?_drop, List.getElem?_drop, show h + (j - h) = j by omega,
      show h + (j - h + 1) = j + 1 by omega] at hn
    exact hn

/-- Every answer of DecodeWindow: too short, no header, no footer, or a closed candidate payload (R146). -/
theorem decodeWindow_cases (win : List Byte) (seed : Byte) (maxd : Nat) :
    (win.length < 7 ∧ decodeWindow win seed maxd = ⟨.incomplete, .shortWindow, none, none, none⟩) ∨
    (7 ≤ win.length ∧ findPair markByte headerByte win = none ∧
      decodeWindow win seed maxd = ⟨.incomplete, .noHeader, none, none, none⟩) ∨
    (∃ h, 7 ≤ win.length ∧ findPair markByte headerByte win = some h ∧
      findPair markByte footerByte (win.drop (h + 2)) = none ∧
      decodeWindow win seed maxd = ⟨.incomplete, .noFooter, some h, none, none⟩) ∨
    (∃ h len, 7 ≤ win.length ∧ findPair markByte headerByte win = some h ∧
      findPair markByte footerByte (win.drop (h + 2)) = some len ∧
      decodeWindow win seed maxd = closeFrame seed maxd h ((win.drop (h + 2)).take len)) := by
  by_cases h7 : win.length < 7
  · exact .inl ⟨h7, by simp [decodeWindow, h7]⟩
  · have h7' : 7 ≤ win.length := by omega
    cases hh : findPair markByte headerByte win with
    | none => exact .inr (.inl ⟨h7', rfl, by simp [decodeWindow, h7, hh]⟩)
    | some h =>
      cases hf : findPair markByte footerByte (win.drop (h + 2)) with
      | none => exact .inr (.inr (.inl ⟨h, h7', rfl, hf, by simp [decodeWindow, h7, hh, hf]⟩))
      | some len => exact .inr (.inr (.inr ⟨h, len, h7', rfl, hf, by simp [decodeWindow, h7, hh, hf]⟩))

/-- The four ways a closed candidate payload ends a decode (R151, R152). -/
theorem closeFrame_cases (seed : Byte) (maxd h : Nat) (p : List Byte) :
    (p.length < 3 ∧ closeFrame seed maxd h p =
      ⟨.checksumMismatch, .runt, some h, some (h + 2 + p.length + 2), none⟩) ∨
    (3 ≤ p.length ∧ maxd < p.length - 3 ∧ closeFrame seed maxd h p =
      ⟨.checksumMismatch, .overlong, some h, some (h + 2 + p.length + 2), none⟩) ∨
    (3 ≤ p.length ∧ p.length - 3 ≤ maxd ∧ (payloadFields seed p).calcSum = (payloadFields seed p).rck ∧
      closeFrame seed maxd h p =
        ⟨.ok, .noDetail, some h, some (h + 2 + p.length + 2), some (payloadFields seed p)⟩) ∨
    (3 ≤ p.length ∧ p.length - 3 ≤ maxd ∧ (payloadFields seed p).calcSum ≠ (payloadFields seed p).rck ∧
      closeFrame seed maxd h p =
        ⟨.checksumMismatch, .badSum, some h, some (h + 2 + p.length + 2), some (payloadFields seed p)⟩) := by
  unfold closeFrame
  by_cases h1 : p.length < 3
  · simp [h1]
  · by_cases h2 : maxd < p.length - 3
    · right; left; simp only [h1, h2, if_true, if_false, and_true]; omega
    · by_cases h3 : (payloadFields seed p).calcSum = (payloadFields seed p).rck
      · right; right; left; simp only [h1, h2, h3, if_true, if_false, and_true]; omega
      · right; right; right
        simp only [h1, h2, h3, if_false, ne_eq, not_false_eq_true, and_true]; omega

end Sys2Proof.Machine
end

