-- ==== Sys2Proof/Laws/State.lean ====
section
/-! SUPPORT. One lemma per field per update of State, true by rfl, so that no later proof unfolds an update. -/

namespace Sys2Proof.Machine

section raiseIrq
variable (s : State) (bits : Word)
@[simp] theorem State.raiseIrq_params : (s.raiseIrq bits).params = s.params := rfl
@[simp] theorem State.raiseIrq_opStatus : (s.raiseIrq bits).opStatus = s.opStatus := rfl
@[simp] theorem State.raiseIrq_encStatus : (s.raiseIrq bits).encStatus = s.encStatus := rfl
@[simp] theorem State.raiseIrq_decStatus : (s.raiseIrq bits).decStatus = s.decStatus := rfl
@[simp] theorem State.raiseIrq_btStatus : (s.raiseIrq bits).btStatus = s.btStatus := rfl
@[simp] theorem State.raiseIrq_irqPend : (s.raiseIrq bits).irqPend = s.irqPend ||| bits := rfl
@[simp] theorem State.raiseIrq_irqEn : (s.raiseIrq bits).irqEn = s.irqEn := rfl
@[simp] theorem State.raiseIrq_quietMs : (s.raiseIrq bits).quietMs = s.quietMs := rfl
@[simp] theorem State.raiseIrq_ifdMs : (s.raiseIrq bits).ifdMs = s.ifdMs := rfl
@[simp] theorem State.raiseIrq_listenMs : (s.raiseIrq bits).listenMs = s.listenMs := rfl
@[simp] theorem State.raiseIrq_busyWaitMs : (s.raiseIrq bits).busyWaitMs = s.busyWaitMs := rfl
@[simp] theorem State.raiseIrq_ckSeed : (s.raiseIrq bits).ckSeed = s.ckSeed := rfl
@[simp] theorem State.raiseIrq_idleMs : (s.raiseIrq bits).idleMs = s.idleMs := rfl
@[simp] theorem State.raiseIrq_ifdElapsed : (s.raiseIrq bits).ifdElapsed = s.ifdElapsed := rfl
@[simp] theorem State.raiseIrq_btTimer : (s.raiseIrq bits).btTimer = s.btTimer := rfl
@[simp] theorem State.raiseIrq_txIdx : (s.raiseIrq bits).txIdx = s.txIdx := rfl
@[simp] theorem State.raiseIrq_encDest : (s.raiseIrq bits).encDest = s.encDest := rfl
@[simp] theorem State.raiseIrq_encCmd : (s.raiseIrq bits).encCmd = s.encCmd := rfl
@[simp] theorem State.raiseIrq_encDlen : (s.raiseIrq bits).encDlen = s.encDlen := rfl
@[simp] theorem State.raiseIrq_encData : (s.raiseIrq bits).encData = s.encData := rfl
@[simp] theorem State.raiseIrq_txBuf : (s.raiseIrq bits).txBuf = s.txBuf := rfl
@[simp] theorem State.raiseIrq_txLen : (s.raiseIrq bits).txLen = s.txLen := rfl
@[simp] theorem State.raiseIrq_rxBuf : (s.raiseIrq bits).rxBuf = s.rxBuf := rfl
@[simp] theorem State.raiseIrq_rxCnt : (s.raiseIrq bits).rxCnt = s.rxCnt := rfl
@[simp] theorem State.raiseIrq_decOff : (s.raiseIrq bits).decOff = s.decOff := rfl
@[simp] theorem State.raiseIrq_res : (s.raiseIrq bits).res = s.res := rfl
@[simp] theorem State.raiseIrq_bt : (s.raiseIrq bits).bt = s.bt := rfl
@[simp] theorem State.raiseIrq_rxOvf : (s.raiseIrq bits).rxOvf = s.rxOvf := rfl
@[simp] theorem State.raiseIrq_te : (s.raiseIrq bits).te = s.te := rfl
@[simp] theorem State.raiseIrq_pending : (s.raiseIrq bits).pending = s.pending := rfl
@[simp] theorem State.raiseIrq_freeIdx : (s.raiseIrq bits).freeIdx = s.freeIdx := rfl
@[simp] theorem State.raiseIrq_wire : (s.raiseIrq bits).wire = s.wire := rfl
@[simp] theorem State.raiseIrq_reads : (s.raiseIrq bits).reads = s.reads := rfl
end raiseIrq

section acceptOp
variable (s : State) (op : BitVec 4)
@[simp] theorem State.acceptOp_params : (s.acceptOp op).params = s.params := rfl
@[simp] theorem State.acceptOp_opStatus : (s.acceptOp op).opStatus = statusWord .ok op := rfl
@[simp] theorem State.acceptOp_encStatus : (s.acceptOp op).encStatus = s.encStatus := rfl
@[simp] theorem State.acceptOp_decStatus : (s.acceptOp op).decStatus = s.decStatus := rfl
@[simp] theorem State.acceptOp_btStatus : (s.acceptOp op).btStatus = s.btStatus := rfl
@[simp] theorem State.acceptOp_irqPend : (s.acceptOp op).irqPend = s.irqPend := rfl
@[simp] theorem State.acceptOp_irqEn : (s.acceptOp op).irqEn = s.irqEn := rfl
@[simp] theorem State.acceptOp_quietMs : (s.acceptOp op).quietMs = s.quietMs := rfl
@[simp] theorem State.acceptOp_ifdMs : (s.acceptOp op).ifdMs = s.ifdMs := rfl
@[simp] theorem State.acceptOp_listenMs : (s.acceptOp op).listenMs = s.listenMs := rfl
@[simp] theorem State.acceptOp_busyWaitMs : (s.acceptOp op).busyWaitMs = s.busyWaitMs := rfl
@[simp] theorem State.acceptOp_ckSeed : (s.acceptOp op).ckSeed = s.ckSeed := rfl
@[simp] theorem State.acceptOp_idleMs : (s.acceptOp op).idleMs = s.idleMs := rfl
@[simp] theorem State.acceptOp_ifdElapsed : (s.acceptOp op).ifdElapsed = s.ifdElapsed := rfl
@[simp] theorem State.acceptOp_btTimer : (s.acceptOp op).btTimer = s.btTimer := rfl
@[simp] theorem State.acceptOp_txIdx : (s.acceptOp op).txIdx = s.txIdx := rfl
@[simp] theorem State.acceptOp_encDest : (s.acceptOp op).encDest = s.encDest := rfl
@[simp] theorem State.acceptOp_encCmd : (s.acceptOp op).encCmd = s.encCmd := rfl
@[simp] theorem State.acceptOp_encDlen : (s.acceptOp op).encDlen = s.encDlen := rfl
@[simp] theorem State.acceptOp_encData : (s.acceptOp op).encData = s.encData := rfl
@[simp] theorem State.acceptOp_txBuf : (s.acceptOp op).txBuf = s.txBuf := rfl
@[simp] theorem State.acceptOp_txLen : (s.acceptOp op).txLen = s.txLen := rfl
@[simp] theorem State.acceptOp_rxBuf : (s.acceptOp op).rxBuf = s.rxBuf := rfl
@[simp] theorem State.acceptOp_rxCnt : (s.acceptOp op).rxCnt = s.rxCnt := rfl
@[simp] theorem State.acceptOp_decOff : (s.acceptOp op).decOff = s.decOff := rfl
@[simp] theorem State.acceptOp_res : (s.acceptOp op).res = s.res := rfl
@[simp] theorem State.acceptOp_bt : (s.acceptOp op).bt = s.bt := rfl
@[simp] theorem State.acceptOp_rxOvf : (s.acceptOp op).rxOvf = s.rxOvf := rfl
@[simp] theorem State.acceptOp_te : (s.acceptOp op).te = s.te := rfl
@[simp] theorem State.acceptOp_pending : (s.acceptOp op).pending = s.pending := rfl
@[simp] theorem State.acceptOp_freeIdx : (s.acceptOp op).freeIdx = s.freeIdx := rfl
@[simp] theorem State.acceptOp_wire : (s.acceptOp op).wire = s.wire := rfl
@[simp] theorem State.acceptOp_reads : (s.acceptOp op).reads = s.reads := rfl
end acceptOp

section refuseOp
variable (s : State) (c : Code) (op : BitVec 4)
@[simp] theorem State.refuseOp_params : (s.refuseOp c op).params = s.params := rfl
@[simp] theorem State.refuseOp_opStatus : (s.refuseOp c op).opStatus = statusWord c op := rfl
@[simp] theorem State.refuseOp_encStatus : (s.refuseOp c op).encStatus = s.encStatus := rfl
@[simp] theorem State.refuseOp_decStatus : (s.refuseOp c op).decStatus = s.decStatus := rfl
@[simp] theorem State.refuseOp_btStatus : (s.refuseOp c op).btStatus = s.btStatus := rfl
@[simp] theorem State.refuseOp_irqPend : (s.refuseOp c op).irqPend = s.irqPend ||| irqOpErr := rfl
@[simp] theorem State.refuseOp_irqEn : (s.refuseOp c op).irqEn = s.irqEn := rfl
@[simp] theorem State.refuseOp_quietMs : (s.refuseOp c op).quietMs = s.quietMs := rfl
@[simp] theorem State.refuseOp_ifdMs : (s.refuseOp c op).ifdMs = s.ifdMs := rfl
@[simp] theorem State.refuseOp_listenMs : (s.refuseOp c op).listenMs = s.listenMs := rfl
@[simp] theorem State.refuseOp_busyWaitMs : (s.refuseOp c op).busyWaitMs = s.busyWaitMs := rfl
@[simp] theorem State.refuseOp_ckSeed : (s.refuseOp c op).ckSeed = s.ckSeed := rfl
@[simp] theorem State.refuseOp_idleMs : (s.refuseOp c op).idleMs = s.idleMs := rfl
@[simp] theorem State.refuseOp_ifdElapsed : (s.refuseOp c op).ifdElapsed = s.ifdElapsed := rfl
@[simp] theorem State.refuseOp_btTimer : (s.refuseOp c op).btTimer = s.btTimer := rfl
@[simp] theorem State.refuseOp_txIdx : (s.refuseOp c op).txIdx = s.txIdx := rfl
@[simp] theorem State.refuseOp_encDest : (s.refuseOp c op).encDest = s.encDest := rfl
@[simp] theorem State.refuseOp_encCmd : (s.refuseOp c op).encCmd = s.encCmd := rfl
@[simp] theorem State.refuseOp_encDlen : (s.refuseOp c op).encDlen = s.encDlen := rfl
@[simp] theorem State.refuseOp_encData : (s.refuseOp c op).encData = s.encData := rfl
@[simp] theorem State.refuseOp_txBuf : (s.refuseOp c op).txBuf = s.txBuf := rfl
@[simp] theorem State.refuseOp_txLen : (s.refuseOp c op).txLen = s.txLen := rfl
@[simp] theorem State.refuseOp_rxBuf : (s.refuseOp c op).rxBuf = s.rxBuf := rfl
@[simp] theorem State.refuseOp_rxCnt : (s.refuseOp c op).rxCnt = s.rxCnt := rfl
@[simp] theorem State.refuseOp_decOff : (s.refuseOp c op).decOff = s.decOff := rfl
@[simp] theorem State.refuseOp_res : (s.refuseOp c op).res = s.res := rfl
@[simp] theorem State.refuseOp_bt : (s.refuseOp c op).bt = s.bt := rfl
@[simp] theorem State.refuseOp_rxOvf : (s.refuseOp c op).rxOvf = s.rxOvf := rfl
@[simp] theorem State.refuseOp_te : (s.refuseOp c op).te = s.te := rfl
@[simp] theorem State.refuseOp_pending : (s.refuseOp c op).pending = s.pending := rfl
@[simp] theorem State.refuseOp_freeIdx : (s.refuseOp c op).freeIdx = s.freeIdx := rfl
@[simp] theorem State.refuseOp_wire : (s.refuseOp c op).wire = s.wire := rfl
@[simp] theorem State.refuseOp_reads : (s.refuseOp c op).reads = s.reads := rfl
end refuseOp

section completeTx
variable (s : State) (c : Code)
@[simp] theorem State.completeTx_params : (s.completeTx c).params = s.params := rfl
@[simp] theorem State.completeTx_opStatus : (s.completeTx c).opStatus = s.opStatus := rfl
@[simp] theorem State.completeTx_encStatus : (s.completeTx c).encStatus = s.encStatus := rfl
@[simp] theorem State.completeTx_decStatus : (s.completeTx c).decStatus = s.decStatus := rfl
@[simp] theorem State.completeTx_btStatus : (s.completeTx c).btStatus = statusWord c (flagField false) := rfl
@[simp] theorem State.completeTx_irqPend : (s.completeTx c).irqPend = s.irqPend ||| irqTxDone := rfl
@[simp] theorem State.completeTx_irqEn : (s.completeTx c).irqEn = s.irqEn := rfl
@[simp] theorem State.completeTx_quietMs : (s.completeTx c).quietMs = s.quietMs := rfl
@[simp] theorem State.completeTx_ifdMs : (s.completeTx c).ifdMs = s.ifdMs := rfl
@[simp] theorem State.completeTx_listenMs : (s.completeTx c).listenMs = s.listenMs := rfl
@[simp] theorem State.completeTx_busyWaitMs : (s.completeTx c).busyWaitMs = s.busyWaitMs := rfl
@[simp] theorem State.completeTx_ckSeed : (s.completeTx c).ckSeed = s.ckSeed := rfl
@[simp] theorem State.completeTx_idleMs : (s.completeTx c).idleMs = s.idleMs := rfl
@[simp] theorem State.completeTx_ifdElapsed : (s.completeTx c).ifdElapsed = s.ifdElapsed := rfl
@[simp] theorem State.completeTx_btTimer : (s.completeTx c).btTimer = s.btTimer := rfl
@[simp] theorem State.completeTx_txIdx : (s.completeTx c).txIdx = s.txIdx := rfl
@[simp] theorem State.completeTx_encDest : (s.completeTx c).encDest = s.encDest := rfl
@[simp] theorem State.completeTx_encCmd : (s.completeTx c).encCmd = s.encCmd := rfl
@[simp] theorem State.completeTx_encDlen : (s.completeTx c).encDlen = s.encDlen := rfl
@[simp] theorem State.completeTx_encData : (s.completeTx c).encData = s.encData := rfl
@[simp] theorem State.completeTx_txBuf : (s.completeTx c).txBuf = s.txBuf := rfl
@[simp] theorem State.completeTx_txLen : (s.completeTx c).txLen = s.txLen := rfl
@[simp] theorem State.completeTx_rxBuf : (s.completeTx c).rxBuf = s.rxBuf := rfl
@[simp] theorem State.completeTx_rxCnt : (s.completeTx c).rxCnt = s.rxCnt := rfl
@[simp] theorem State.completeTx_decOff : (s.completeTx c).decOff = s.decOff := rfl
@[simp] theorem State.completeTx_res : (s.completeTx c).res = s.res := rfl
@[simp] theorem State.completeTx_bt : (s.completeTx c).bt = .idle := rfl
@[simp] theorem State.completeTx_rxOvf : (s.completeTx c).rxOvf = s.rxOvf := rfl
@[simp] theorem State.completeTx_te : (s.completeTx c).te = false := rfl
@[simp] theorem State.completeTx_pending : (s.completeTx c).pending = s.pending := rfl
@[simp] theorem State.completeTx_freeIdx : (s.completeTx c).freeIdx = s.freeIdx := rfl
@[simp] theorem State.completeTx_wire : (s.completeTx c).wire = s.wire := rfl
@[simp] theorem State.completeTx_reads : (s.completeTx c).reads = s.reads := rfl
end completeTx

section completeListen
variable (s : State) (c : Code)
@[simp] theorem State.completeListen_params : (s.completeListen c).params = s.params := rfl
@[simp] theorem State.completeListen_opStatus : (s.completeListen c).opStatus = s.opStatus := rfl
@[simp] theorem State.completeListen_encStatus : (s.completeListen c).encStatus = s.encStatus := rfl
@[simp] theorem State.completeListen_decStatus : (s.completeListen c).decStatus = s.decStatus := rfl
@[simp] theorem State.completeListen_btStatus : (s.completeListen c).btStatus = statusWord c (flagField true) := rfl
@[simp] theorem State.completeListen_irqPend : (s.completeListen c).irqPend = s.irqPend ||| irqRxDone := rfl
@[simp] theorem State.completeListen_irqEn : (s.completeListen c).irqEn = s.irqEn := rfl
@[simp] theorem State.completeListen_quietMs : (s.completeListen c).quietMs = s.quietMs := rfl
@[simp] theorem State.completeListen_ifdMs : (s.completeListen c).ifdMs = s.ifdMs := rfl
@[simp] theorem State.completeListen_listenMs : (s.completeListen c).listenMs = s.listenMs := rfl
@[simp] theorem State.completeListen_busyWaitMs : (s.completeListen c).busyWaitMs = s.busyWaitMs := rfl
@[simp] theorem State.completeListen_ckSeed : (s.completeListen c).ckSeed = s.ckSeed := rfl
@[simp] theorem State.completeListen_idleMs : (s.completeListen c).idleMs = s.idleMs := rfl
@[simp] theorem State.completeListen_ifdElapsed : (s.completeListen c).ifdElapsed = s.ifdElapsed := rfl
@[simp] theorem State.completeListen_btTimer : (s.completeListen c).btTimer = s.btTimer := rfl
@[simp] theorem State.completeListen_txIdx : (s.completeListen c).txIdx = s.txIdx := rfl
@[simp] theorem State.completeListen_encDest : (s.completeListen c).encDest = s.encDest := rfl
@[simp] theorem State.completeListen_encCmd : (s.completeListen c).encCmd = s.encCmd := rfl
@[simp] theorem State.completeListen_encDlen : (s.completeListen c).encDlen = s.encDlen := rfl
@[simp] theorem State.completeListen_encData : (s.completeListen c).encData = s.encData := rfl
@[simp] theorem State.completeListen_txBuf : (s.completeListen c).txBuf = s.txBuf := rfl
@[simp] theorem State.completeListen_txLen : (s.completeListen c).txLen = s.txLen := rfl
@[simp] theorem State.completeListen_rxBuf : (s.completeListen c).rxBuf = s.rxBuf := rfl
@[simp] theorem State.completeListen_rxCnt : (s.completeListen c).rxCnt = s.rxCnt := rfl
@[simp] theorem State.completeListen_decOff : (s.completeListen c).decOff = s.decOff := rfl
@[simp] theorem State.completeListen_res : (s.completeListen c).res = s.res := rfl
@[simp] theorem State.completeListen_bt : (s.completeListen c).bt = .idle := rfl
@[simp] theorem State.completeListen_rxOvf : (s.completeListen c).rxOvf = s.rxOvf := rfl
@[simp] theorem State.completeListen_te : (s.completeListen c).te = s.te := rfl
@[simp] theorem State.completeListen_pending : (s.completeListen c).pending = s.pending := rfl
@[simp] theorem State.completeListen_freeIdx : (s.completeListen c).freeIdx = s.freeIdx := rfl
@[simp] theorem State.completeListen_wire : (s.completeListen c).wire = s.wire := rfl
@[simp] theorem State.completeListen_reads : (s.completeListen c).reads = s.reads := rfl
end completeListen

section startTx
variable (s : State)
@[simp] theorem State.startTx_params : (s.startTx).params = s.params := rfl
@[simp] theorem State.startTx_opStatus : (s.startTx).opStatus = s.opStatus := rfl
@[simp] theorem State.startTx_encStatus : (s.startTx).encStatus = s.encStatus := rfl
@[simp] theorem State.startTx_decStatus : (s.startTx).decStatus = s.decStatus := rfl
@[simp] theorem State.startTx_btStatus : (s.startTx).btStatus = s.btStatus := rfl
@[simp] theorem State.startTx_irqPend : (s.startTx).irqPend = s.irqPend := rfl
@[simp] theorem State.startTx_irqEn : (s.startTx).irqEn = s.irqEn := rfl
@[simp] theorem State.startTx_quietMs : (s.startTx).quietMs = s.quietMs := rfl
@[simp] theorem State.startTx_ifdMs : (s.startTx).ifdMs = s.ifdMs := rfl
@[simp] theorem State.startTx_listenMs : (s.startTx).listenMs = s.listenMs := rfl
@[simp] theorem State.startTx_busyWaitMs : (s.startTx).busyWaitMs = s.busyWaitMs := rfl
@[simp] theorem State.startTx_ckSeed : (s.startTx).ckSeed = s.ckSeed := rfl
@[simp] theorem State.startTx_idleMs : (s.startTx).idleMs = s.idleMs := rfl
@[simp] theorem State.startTx_ifdElapsed : (s.startTx).ifdElapsed = s.ifdElapsed := rfl
@[simp] theorem State.startTx_btTimer : (s.startTx).btTimer = s.btTimer := rfl
@[simp] theorem State.startTx_txIdx : (s.startTx).txIdx = 0 := rfl
@[simp] theorem State.startTx_encDest : (s.startTx).encDest = s.encDest := rfl
@[simp] theorem State.startTx_encCmd : (s.startTx).encCmd = s.encCmd := rfl
@[simp] theorem State.startTx_encDlen : (s.startTx).encDlen = s.encDlen := rfl
@[simp] theorem State.startTx_encData : (s.startTx).encData = s.encData := rfl
@[simp] theorem State.startTx_txBuf : (s.startTx).txBuf = s.txBuf := rfl
@[simp] theorem State.startTx_txLen : (s.startTx).txLen = s.txLen := rfl
@[simp] theorem State.startTx_rxBuf : (s.startTx).rxBuf = s.rxBuf := rfl
@[simp] theorem State.startTx_rxCnt : (s.startTx).rxCnt = s.rxCnt := rfl
@[simp] theorem State.startTx_decOff : (s.startTx).decOff = s.decOff := rfl
@[simp] theorem State.startTx_res : (s.startTx).res = s.res := rfl
@[simp] theorem State.startTx_bt : (s.startTx).bt = .tx := rfl
@[simp] theorem State.startTx_rxOvf : (s.startTx).rxOvf = s.rxOvf := rfl
@[simp] theorem State.startTx_te : (s.startTx).te = true := rfl
@[simp] theorem State.startTx_pending : (s.startTx).pending = s.pending := rfl
@[simp] theorem State.startTx_freeIdx : (s.startTx).freeIdx = s.freeIdx := rfl
@[simp] theorem State.startTx_wire : (s.startTx).wire = s.wire := rfl
@[simp] theorem State.startTx_reads : (s.startTx).reads = s.reads := rfl
end startTx

section advanceCounters
variable (s : State)
@[simp] theorem State.advanceCounters_params : (s.advanceCounters).params = s.params := rfl
@[simp] theorem State.advanceCounters_opStatus : (s.advanceCounters).opStatus = s.opStatus := rfl
@[simp] theorem State.advanceCounters_encStatus : (s.advanceCounters).encStatus = s.encStatus := rfl
@[simp] theorem State.advanceCounters_decStatus : (s.advanceCounters).decStatus = s.decStatus := rfl
@[simp] theorem State.advanceCounters_btStatus : (s.advanceCounters).btStatus = s.btStatus := rfl
@[simp] theorem State.advanceCounters_irqPend : (s.advanceCounters).irqPend = s.irqPend := rfl
@[simp] theorem State.advanceCounters_irqEn : (s.advanceCounters).irqEn = s.irqEn := rfl
@[simp] theorem State.advanceCounters_quietMs : (s.advanceCounters).quietMs = s.quietMs := rfl
@[simp] theorem State.advanceCounters_ifdMs : (s.advanceCounters).ifdMs = s.ifdMs := rfl
@[simp] theorem State.advanceCounters_listenMs : (s.advanceCounters).listenMs = s.listenMs := rfl
@[simp] theorem State.advanceCounters_busyWaitMs : (s.advanceCounters).busyWaitMs = s.busyWaitMs := rfl
@[simp] theorem State.advanceCounters_ckSeed : (s.advanceCounters).ckSeed = s.ckSeed := rfl
@[simp] theorem State.advanceCounters_idleMs : (s.advanceCounters).idleMs = if s.te then s.idleMs else satInc s.idleMs := rfl
@[simp] theorem State.advanceCounters_ifdElapsed : (s.advanceCounters).ifdElapsed = if s.te then s.ifdElapsed else satInc s.ifdElapsed := rfl
@[simp] theorem State.advanceCounters_btTimer : (s.advanceCounters).btTimer = if s.bt = .wait ∨ s.bt = .listen then satInc s.btTimer else s.btTimer := rfl
@[simp] theorem State.advanceCounters_txIdx : (s.advanceCounters).txIdx = s.txIdx := rfl
@[simp] theorem State.advanceCounters_encDest : (s.advanceCounters).encDest = s.encDest := rfl
@[simp] theorem State.advanceCounters_encCmd : (s.advanceCounters).encCmd = s.encCmd := rfl
@[simp] theorem State.advanceCounters_encDlen : (s.advanceCounters).encDlen = s.encDlen := rfl
@[simp] theorem State.advanceCounters_encData : (s.advanceCounters).encData = s.encData := rfl
@[simp] theorem State.advanceCounters_txBuf : (s.advanceCounters).txBuf = s.txBuf := rfl
@[simp] theorem State.advanceCounters_txLen : (s.advanceCounters).txLen = s.txLen := rfl
@[simp] theorem State.advanceCounters_rxBuf : (s.advanceCounters).rxBuf = s.rxBuf := rfl
@[simp] theorem State.advanceCounters_rxCnt : (s.advanceCounters).rxCnt = s.rxCnt := rfl
@[simp] theorem State.advanceCounters_decOff : (s.advanceCounters).decOff = s.decOff := rfl
@[simp] theorem State.advanceCounters_res : (s.advanceCounters).res = s.res := rfl
@[simp] theorem State.advanceCounters_bt : (s.advanceCounters).bt = s.bt := rfl
@[simp] theorem State.advanceCounters_rxOvf : (s.advanceCounters).rxOvf = s.rxOvf := rfl
@[simp] theorem State.advanceCounters_te : (s.advanceCounters).te = s.te := rfl
@[simp] theorem State.advanceCounters_pending : (s.advanceCounters).pending = s.pending := rfl
@[simp] theorem State.advanceCounters_freeIdx : (s.advanceCounters).freeIdx = s.freeIdx := rfl
@[simp] theorem State.advanceCounters_wire : (s.advanceCounters).wire = s.wire := rfl
@[simp] theorem State.advanceCounters_reads : (s.advanceCounters).reads = s.reads := rfl
end advanceCounters

section clearResults
variable (s : State)
@[simp] theorem State.clearResults_params : (s.clearResults).params = s.params := rfl
@[simp] theorem State.clearResults_opStatus : (s.clearResults).opStatus = s.opStatus := rfl
@[simp] theorem State.clearResults_encStatus : (s.clearResults).encStatus = s.encStatus := rfl
@[simp] theorem State.clearResults_decStatus : (s.clearResults).decStatus = s.decStatus := rfl
@[simp] theorem State.clearResults_btStatus : (s.clearResults).btStatus = s.btStatus := rfl
@[simp] theorem State.clearResults_irqPend : (s.clearResults).irqPend = s.irqPend := rfl
@[simp] theorem State.clearResults_irqEn : (s.clearResults).irqEn = s.irqEn := rfl
@[simp] theorem State.clearResults_quietMs : (s.clearResults).quietMs = s.quietMs := rfl
@[simp] theorem State.clearResults_ifdMs : (s.clearResults).ifdMs = s.ifdMs := rfl
@[simp] theorem State.clearResults_listenMs : (s.clearResults).listenMs = s.listenMs := rfl
@[simp] theorem State.clearResults_busyWaitMs : (s.clearResults).busyWaitMs = s.busyWaitMs := rfl
@[simp] theorem State.clearResults_ckSeed : (s.clearResults).ckSeed = s.ckSeed := rfl
@[simp] theorem State.clearResults_idleMs : (s.clearResults).idleMs = s.idleMs := rfl
@[simp] theorem State.clearResults_ifdElapsed : (s.clearResults).ifdElapsed = s.ifdElapsed := rfl
@[simp] theorem State.clearResults_btTimer : (s.clearResults).btTimer = s.btTimer := rfl
@[simp] theorem State.clearResults_txIdx : (s.clearResults).txIdx = s.txIdx := rfl
@[simp] theorem State.clearResults_encDest : (s.clearResults).encDest = s.encDest := rfl
@[simp] theorem State.clearResults_encCmd : (s.clearResults).encCmd = s.encCmd := rfl
@[simp] theorem State.clearResults_encDlen : (s.clearResults).encDlen = s.encDlen := rfl
@[simp] theorem State.clearResults_encData : (s.clearResults).encData = s.encData := rfl
@[simp] theorem State.clearResults_txBuf : (s.clearResults).txBuf = s.txBuf := rfl
@[simp] theorem State.clearResults_txLen : (s.clearResults).txLen = s.txLen := rfl
@[simp] theorem State.clearResults_rxBuf : (s.clearResults).rxBuf = s.rxBuf := rfl
@[simp] theorem State.clearResults_rxCnt : (s.clearResults).rxCnt = s.rxCnt := rfl
@[simp] theorem State.clearResults_decOff : (s.clearResults).decOff = s.decOff := rfl
@[simp] theorem State.clearResults_res : (s.clearResults).res = Results.zero s.params.maxData := rfl
@[simp] theorem State.clearResults_bt : (s.clearResults).bt = s.bt := rfl
@[simp] theorem State.clearResults_rxOvf : (s.clearResults).rxOvf = s.rxOvf := rfl
@[simp] theorem State.clearResults_te : (s.clearResults).te = s.te := rfl
@[simp] theorem State.clearResults_pending : (s.clearResults).pending = s.pending := rfl
@[simp] theorem State.clearResults_freeIdx : (s.clearResults).freeIdx = s.freeIdx := rfl
@[simp] theorem State.clearResults_wire : (s.clearResults).wire = s.wire := rfl
@[simp] theorem State.clearResults_reads : (s.clearResults).reads = s.reads := rfl
end clearResults

section writeDecode
variable (s : State) (off : Nat) (r : DecodeResult)
@[simp] theorem State.writeDecode_params : (s.writeDecode off r).params = s.params := rfl
@[simp] theorem State.writeDecode_opStatus : (s.writeDecode off r).opStatus = s.opStatus := rfl
@[simp] theorem State.writeDecode_encStatus : (s.writeDecode off r).encStatus = s.encStatus := rfl
@[simp] theorem State.writeDecode_decStatus : (s.writeDecode off r).decStatus = statusWord r.code r.detail.bits := rfl
@[simp] theorem State.writeDecode_btStatus : (s.writeDecode off r).btStatus = s.btStatus := rfl
@[simp] theorem State.writeDecode_irqPend : (s.writeDecode off r).irqPend = s.irqPend := rfl
@[simp] theorem State.writeDecode_irqEn : (s.writeDecode off r).irqEn = s.irqEn := rfl
@[simp] theorem State.writeDecode_quietMs : (s.writeDecode off r).quietMs = s.quietMs := rfl
@[simp] theorem State.writeDecode_ifdMs : (s.writeDecode off r).ifdMs = s.ifdMs := rfl
@[simp] theorem State.writeDecode_listenMs : (s.writeDecode off r).listenMs = s.listenMs := rfl
@[simp] theorem State.writeDecode_busyWaitMs : (s.writeDecode off r).busyWaitMs = s.busyWaitMs := rfl
@[simp] theorem State.writeDecode_ckSeed : (s.writeDecode off r).ckSeed = s.ckSeed := rfl
@[simp] theorem State.writeDecode_idleMs : (s.writeDecode off r).idleMs = s.idleMs := rfl
@[simp] theorem State.writeDecode_ifdElapsed : (s.writeDecode off r).ifdElapsed = s.ifdElapsed := rfl
@[simp] theorem State.writeDecode_btTimer : (s.writeDecode off r).btTimer = s.btTimer := rfl
@[simp] theorem State.writeDecode_txIdx : (s.writeDecode off r).txIdx = s.txIdx := rfl
@[simp] theorem State.writeDecode_encDest : (s.writeDecode off r).encDest = s.encDest := rfl
@[simp] theorem State.writeDecode_encCmd : (s.writeDecode off r).encCmd = s.encCmd := rfl
@[simp] theorem State.writeDecode_encDlen : (s.writeDecode off r).encDlen = s.encDlen := rfl
@[simp] theorem State.writeDecode_encData : (s.writeDecode off r).encData = s.encData := rfl
@[simp] theorem State.writeDecode_txBuf : (s.writeDecode off r).txBuf = s.txBuf := rfl
@[simp] theorem State.writeDecode_txLen : (s.writeDecode off r).txLen = s.txLen := rfl
@[simp] theorem State.writeDecode_rxBuf : (s.writeDecode off r).rxBuf = s.rxBuf := rfl
@[simp] theorem State.writeDecode_rxCnt : (s.writeDecode off r).rxCnt = s.rxCnt := rfl
@[simp] theorem State.writeDecode_decOff : (s.writeDecode off r).decOff = s.decOff := rfl
@[simp] theorem State.writeDecode_res : (s.writeDecode off r).res = resultsOf s.params.maxData off r := rfl
@[simp] theorem State.writeDecode_bt : (s.writeDecode off r).bt = s.bt := rfl
@[simp] theorem State.writeDecode_rxOvf : (s.writeDecode off r).rxOvf = s.rxOvf := rfl
@[simp] theorem State.writeDecode_te : (s.writeDecode off r).te = s.te := rfl
@[simp] theorem State.writeDecode_pending : (s.writeDecode off r).pending = s.pending := rfl
@[simp] theorem State.writeDecode_freeIdx : (s.writeDecode off r).freeIdx = s.freeIdx := rfl
@[simp] theorem State.writeDecode_wire : (s.writeDecode off r).wire = s.wire := rfl
@[simp] theorem State.writeDecode_reads : (s.writeDecode off r).reads = s.reads := rfl
end writeDecode

section loadFrame
variable (s : State) (f : List Byte)
@[simp] theorem State.loadFrame_params : (s.loadFrame f).params = s.params := rfl
@[simp] theorem State.loadFrame_opStatus : (s.loadFrame f).opStatus = s.opStatus := rfl
@[simp] theorem State.loadFrame_encStatus : (s.loadFrame f).encStatus = s.encStatus := rfl
@[simp] theorem State.loadFrame_decStatus : (s.loadFrame f).decStatus = s.decStatus := rfl
@[simp] theorem State.loadFrame_btStatus : (s.loadFrame f).btStatus = s.btStatus := rfl
@[simp] theorem State.loadFrame_irqPend : (s.loadFrame f).irqPend = s.irqPend := rfl
@[simp] theorem State.loadFrame_irqEn : (s.loadFrame f).irqEn = s.irqEn := rfl
@[simp] theorem State.loadFrame_quietMs : (s.loadFrame f).quietMs = s.quietMs := rfl
@[simp] theorem State.loadFrame_ifdMs : (s.loadFrame f).ifdMs = s.ifdMs := rfl
@[simp] theorem State.loadFrame_listenMs : (s.loadFrame f).listenMs = s.listenMs := rfl
@[simp] theorem State.loadFrame_busyWaitMs : (s.loadFrame f).busyWaitMs = s.busyWaitMs := rfl
@[simp] theorem State.loadFrame_ckSeed : (s.loadFrame f).ckSeed = s.ckSeed := rfl
@[simp] theorem State.loadFrame_idleMs : (s.loadFrame f).idleMs = s.idleMs := rfl
@[simp] theorem State.loadFrame_ifdElapsed : (s.loadFrame f).ifdElapsed = s.ifdElapsed := rfl
@[simp] theorem State.loadFrame_btTimer : (s.loadFrame f).btTimer = s.btTimer := rfl
@[simp] theorem State.loadFrame_txIdx : (s.loadFrame f).txIdx = s.txIdx := rfl
@[simp] theorem State.loadFrame_encDest : (s.loadFrame f).encDest = s.encDest := rfl
@[simp] theorem State.loadFrame_encCmd : (s.loadFrame f).encCmd = s.encCmd := rfl
@[simp] theorem State.loadFrame_encDlen : (s.loadFrame f).encDlen = s.encDlen := rfl
@[simp] theorem State.loadFrame_encData : (s.loadFrame f).encData = s.encData := rfl
@[simp] theorem State.loadFrame_txBuf : (s.loadFrame f).txBuf = f ++ s.txBuf.drop f.length := rfl
@[simp] theorem State.loadFrame_txLen : (s.loadFrame f).txLen = BitVec.ofNat 8 f.length := rfl
@[simp] theorem State.loadFrame_rxBuf : (s.loadFrame f).rxBuf = s.rxBuf := rfl
@[simp] theorem State.loadFrame_rxCnt : (s.loadFrame f).rxCnt = s.rxCnt := rfl
@[simp] theorem State.loadFrame_decOff : (s.loadFrame f).decOff = s.decOff := rfl
@[simp] theorem State.loadFrame_res : (s.loadFrame f).res = s.res := rfl
@[simp] theorem State.loadFrame_bt : (s.loadFrame f).bt = s.bt := rfl
@[simp] theorem State.loadFrame_rxOvf : (s.loadFrame f).rxOvf = s.rxOvf := rfl
@[simp] theorem State.loadFrame_te : (s.loadFrame f).te = s.te := rfl
@[simp] theorem State.loadFrame_pending : (s.loadFrame f).pending = s.pending := rfl
@[simp] theorem State.loadFrame_freeIdx : (s.loadFrame f).freeIdx = s.freeIdx := rfl
@[simp] theorem State.loadFrame_wire : (s.loadFrame f).wire = s.wire := rfl
@[simp] theorem State.loadFrame_reads : (s.loadFrame f).reads = s.reads := rfl
end loadFrame

section storeRx
variable (s : State) (b : Byte)
@[simp] theorem State.storeRx_params : (s.storeRx b).params = s.params := rfl
@[simp] theorem State.storeRx_opStatus : (s.storeRx b).opStatus = s.opStatus := rfl
@[simp] theorem State.storeRx_encStatus : (s.storeRx b).encStatus = s.encStatus := rfl
@[simp] theorem State.storeRx_decStatus : (s.storeRx b).decStatus = s.decStatus := rfl
@[simp] theorem State.storeRx_btStatus : (s.storeRx b).btStatus = s.btStatus := rfl
@[simp] theorem State.storeRx_irqPend : (s.storeRx b).irqPend = s.irqPend := rfl
@[simp] theorem State.storeRx_irqEn : (s.storeRx b).irqEn = s.irqEn := rfl
@[simp] theorem State.storeRx_quietMs : (s.storeRx b).quietMs = s.quietMs := rfl
@[simp] theorem State.storeRx_ifdMs : (s.storeRx b).ifdMs = s.ifdMs := rfl
@[simp] theorem State.storeRx_listenMs : (s.storeRx b).listenMs = s.listenMs := rfl
@[simp] theorem State.storeRx_busyWaitMs : (s.storeRx b).busyWaitMs = s.busyWaitMs := rfl
@[simp] theorem State.storeRx_ckSeed : (s.storeRx b).ckSeed = s.ckSeed := rfl
@[simp] theorem State.storeRx_idleMs : (s.storeRx b).idleMs = s.idleMs := rfl
@[simp] theorem State.storeRx_ifdElapsed : (s.storeRx b).ifdElapsed = s.ifdElapsed := rfl
@[simp] theorem State.storeRx_btTimer : (s.storeRx b).btTimer = s.btTimer := rfl
@[simp] theorem State.storeRx_txIdx : (s.storeRx b).txIdx = s.txIdx := rfl
@[simp] theorem State.storeRx_encDest : (s.storeRx b).encDest = s.encDest := rfl
@[simp] theorem State.storeRx_encCmd : (s.storeRx b).encCmd = s.encCmd := rfl
@[simp] theorem State.storeRx_encDlen : (s.storeRx b).encDlen = s.encDlen := rfl
@[simp] theorem State.storeRx_encData : (s.storeRx b).encData = s.encData := rfl
@[simp] theorem State.storeRx_txBuf : (s.storeRx b).txBuf = s.txBuf := rfl
@[simp] theorem State.storeRx_txLen : (s.storeRx b).txLen = s.txLen := rfl
@[simp] theorem State.storeRx_rxBuf : (s.storeRx b).rxBuf = s.rxBuf.set s.rxCnt.toNat b := rfl
@[simp] theorem State.storeRx_rxCnt : (s.storeRx b).rxCnt = s.rxCnt + 1 := rfl
@[simp] theorem State.storeRx_decOff : (s.storeRx b).decOff = s.decOff := rfl
@[simp] theorem State.storeRx_res : (s.storeRx b).res = s.res := rfl
@[simp] theorem State.storeRx_bt : (s.storeRx b).bt = s.bt := rfl
@[simp] theorem State.storeRx_rxOvf : (s.storeRx b).rxOvf = s.rxOvf := rfl
@[simp] theorem State.storeRx_te : (s.storeRx b).te = s.te := rfl
@[simp] theorem State.storeRx_pending : (s.storeRx b).pending = s.pending := rfl
@[simp] theorem State.storeRx_freeIdx : (s.storeRx b).freeIdx = s.freeIdx := rfl
@[simp] theorem State.storeRx_wire : (s.storeRx b).wire = s.wire := rfl
@[simp] theorem State.storeRx_reads : (s.storeRx b).reads = s.reads := rfl
end storeRx

section failEncode
variable (s : State)
@[simp] theorem State.failEncode_params : (s.failEncode).params = s.params := rfl
@[simp] theorem State.failEncode_opStatus : (s.failEncode).opStatus = s.opStatus := rfl
@[simp] theorem State.failEncode_encStatus : (s.failEncode).encStatus = statusWord .invalidPayload (flagField false) := rfl
@[simp] theorem State.failEncode_decStatus : (s.failEncode).decStatus = s.decStatus := rfl
@[simp] theorem State.failEncode_btStatus : (s.failEncode).btStatus = s.btStatus := rfl
@[simp] theorem State.failEncode_irqPend : (s.failEncode).irqPend = s.irqPend := rfl
@[simp] theorem State.failEncode_irqEn : (s.failEncode).irqEn = s.irqEn := rfl
@[simp] theorem State.failEncode_quietMs : (s.failEncode).quietMs = s.quietMs := rfl
@[simp] theorem State.failEncode_ifdMs : (s.failEncode).ifdMs = s.ifdMs := rfl
@[simp] theorem State.failEncode_listenMs : (s.failEncode).listenMs = s.listenMs := rfl
@[simp] theorem State.failEncode_busyWaitMs : (s.failEncode).busyWaitMs = s.busyWaitMs := rfl
@[simp] theorem State.failEncode_ckSeed : (s.failEncode).ckSeed = s.ckSeed := rfl
@[simp] theorem State.failEncode_idleMs : (s.failEncode).idleMs = s.idleMs := rfl
@[simp] theorem State.failEncode_ifdElapsed : (s.failEncode).ifdElapsed = s.ifdElapsed := rfl
@[simp] theorem State.failEncode_btTimer : (s.failEncode).btTimer = s.btTimer := rfl
@[simp] theorem State.failEncode_txIdx : (s.failEncode).txIdx = s.txIdx := rfl
@[simp] theorem State.failEncode_encDest : (s.failEncode).encDest = s.encDest := rfl
@[simp] theorem State.failEncode_encCmd : (s.failEncode).encCmd = s.encCmd := rfl
@[simp] theorem State.failEncode_encDlen : (s.failEncode).encDlen = s.encDlen := rfl
@[simp] theorem State.failEncode_encData : (s.failEncode).encData = s.encData := rfl
@[simp] theorem State.failEncode_txBuf : (s.failEncode).txBuf = s.txBuf := rfl
@[simp] theorem State.failEncode_txLen : (s.failEncode).txLen = 0 := rfl
@[simp] theorem State.failEncode_rxBuf : (s.failEncode).rxBuf = s.rxBuf := rfl
@[simp] theorem State.failEncode_rxCnt : (s.failEncode).rxCnt = s.rxCnt := rfl
@[simp] theorem State.failEncode_decOff : (s.failEncode).decOff = s.decOff := rfl
@[simp] theorem State.failEncode_res : (s.failEncode).res = s.res := rfl
@[simp] theorem State.failEncode_bt : (s.failEncode).bt = s.bt := rfl
@[simp] theorem State.failEncode_rxOvf : (s.failEncode).rxOvf = s.rxOvf := rfl
@[simp] theorem State.failEncode_te : (s.failEncode).te = s.te := rfl
@[simp] theorem State.failEncode_pending : (s.failEncode).pending = s.pending := rfl
@[simp] theorem State.failEncode_freeIdx : (s.failEncode).freeIdx = s.freeIdx := rfl
@[simp] theorem State.failEncode_wire : (s.failEncode).wire = s.wire := rfl
@[simp] theorem State.failEncode_reads : (s.failEncode).reads = s.reads := rfl
end failEncode

section enterWait
variable (s : State)
@[simp] theorem State.enterWait_params : (s.enterWait).params = s.params := rfl
@[simp] theorem State.enterWait_opStatus : (s.enterWait).opStatus = s.opStatus := rfl
@[simp] theorem State.enterWait_encStatus : (s.enterWait).encStatus = s.encStatus := rfl
@[simp] theorem State.enterWait_decStatus : (s.enterWait).decStatus = s.decStatus := rfl
@[simp] theorem State.enterWait_btStatus : (s.enterWait).btStatus = s.btStatus := rfl
@[simp] theorem State.enterWait_irqPend : (s.enterWait).irqPend = s.irqPend := rfl
@[simp] theorem State.enterWait_irqEn : (s.enterWait).irqEn = s.irqEn := rfl
@[simp] theorem State.enterWait_quietMs : (s.enterWait).quietMs = s.quietMs := rfl
@[simp] theorem State.enterWait_ifdMs : (s.enterWait).ifdMs = s.ifdMs := rfl
@[simp] theorem State.enterWait_listenMs : (s.enterWait).listenMs = s.listenMs := rfl
@[simp] theorem State.enterWait_busyWaitMs : (s.enterWait).busyWaitMs = s.busyWaitMs := rfl
@[simp] theorem State.enterWait_ckSeed : (s.enterWait).ckSeed = s.ckSeed := rfl
@[simp] theorem State.enterWait_idleMs : (s.enterWait).idleMs = s.idleMs := rfl
@[simp] theorem State.enterWait_ifdElapsed : (s.enterWait).ifdElapsed = s.ifdElapsed := rfl
@[simp] theorem State.enterWait_btTimer : (s.enterWait).btTimer = 0 := rfl
@[simp] theorem State.enterWait_txIdx : (s.enterWait).txIdx = s.txIdx := rfl
@[simp] theorem State.enterWait_encDest : (s.enterWait).encDest = s.encDest := rfl
@[simp] theorem State.enterWait_encCmd : (s.enterWait).encCmd = s.encCmd := rfl
@[simp] theorem State.enterWait_encDlen : (s.enterWait).encDlen = s.encDlen := rfl
@[simp] theorem State.enterWait_encData : (s.enterWait).encData = s.encData := rfl
@[simp] theorem State.enterWait_txBuf : (s.enterWait).txBuf = s.txBuf := rfl
@[simp] theorem State.enterWait_txLen : (s.enterWait).txLen = s.txLen := rfl
@[simp] theorem State.enterWait_rxBuf : (s.enterWait).rxBuf = s.rxBuf := rfl
@[simp] theorem State.enterWait_rxCnt : (s.enterWait).rxCnt = s.rxCnt := rfl
@[simp] theorem State.enterWait_decOff : (s.enterWait).decOff = s.decOff := rfl
@[simp] theorem State.enterWait_res : (s.enterWait).res = s.res := rfl
@[simp] theorem State.enterWait_bt : (s.enterWait).bt = .wait := rfl
@[simp] theorem State.enterWait_rxOvf : (s.enterWait).rxOvf = s.rxOvf := rfl
@[simp] theorem State.enterWait_te : (s.enterWait).te = s.te := rfl
@[simp] theorem State.enterWait_pending : (s.enterWait).pending = s.pending := rfl
@[simp] theorem State.enterWait_freeIdx : (s.enterWait).freeIdx = s.freeIdx := rfl
@[simp] theorem State.enterWait_wire : (s.enterWait).wire = s.wire := rfl
@[simp] theorem State.enterWait_reads : (s.enterWait).reads = s.reads := rfl
end enterWait

section enterListen
variable (s : State)
@[simp] theorem State.enterListen_params : (s.enterListen).params = s.params := rfl
@[simp] theorem State.enterListen_opStatus : (s.enterListen).opStatus = s.opStatus := rfl
@[simp] theorem State.enterListen_encStatus : (s.enterListen).encStatus = s.encStatus := rfl
@[simp] theorem State.enterListen_decStatus : (s.enterListen).decStatus = s.decStatus := rfl
@[simp] theorem State.enterListen_btStatus : (s.enterListen).btStatus = s.btStatus := rfl
@[simp] theorem State.enterListen_irqPend : (s.enterListen).irqPend = s.irqPend := rfl
@[simp] theorem State.enterListen_irqEn : (s.enterListen).irqEn = s.irqEn := rfl
@[simp] theorem State.enterListen_quietMs : (s.enterListen).quietMs = s.quietMs := rfl
@[simp] theorem State.enterListen_ifdMs : (s.enterListen).ifdMs = s.ifdMs := rfl
@[simp] theorem State.enterListen_listenMs : (s.enterListen).listenMs = s.listenMs := rfl
@[simp] theorem State.enterListen_busyWaitMs : (s.enterListen).busyWaitMs = s.busyWaitMs := rfl
@[simp] theorem State.enterListen_ckSeed : (s.enterListen).ckSeed = s.ckSeed := rfl
@[simp] theorem State.enterListen_idleMs : (s.enterListen).idleMs = s.idleMs := rfl
@[simp] theorem State.enterListen_ifdElapsed : (s.enterListen).ifdElapsed = s.ifdElapsed := rfl
@[simp] theorem State.enterListen_btTimer : (s.enterListen).btTimer = 0 := rfl
@[simp] theorem State.enterListen_txIdx : (s.enterListen).txIdx = s.txIdx := rfl
@[simp] theorem State.enterListen_encDest : (s.enterListen).encDest = s.encDest := rfl
@[simp] theorem State.enterListen_encCmd : (s.enterListen).encCmd = s.encCmd := rfl
@[simp] theorem State.enterListen_encDlen : (s.enterListen).encDlen = s.encDlen := rfl
@[simp] theorem State.enterListen_encData : (s.enterListen).encData = s.encData := rfl
@[simp] theorem State.enterListen_txBuf : (s.enterListen).txBuf = s.txBuf := rfl
@[simp] theorem State.enterListen_txLen : (s.enterListen).txLen = s.txLen := rfl
@[simp] theorem State.enterListen_rxBuf : (s.enterListen).rxBuf = s.rxBuf := rfl
@[simp] theorem State.enterListen_rxCnt : (s.enterListen).rxCnt = 0 := rfl
@[simp] theorem State.enterListen_decOff : (s.enterListen).decOff = 0 := rfl
@[simp] theorem State.enterListen_res : (s.enterListen).res = s.res := rfl
@[simp] theorem State.enterListen_bt : (s.enterListen).bt = .listen := rfl
@[simp] theorem State.enterListen_rxOvf : (s.enterListen).rxOvf = false := rfl
@[simp] theorem State.enterListen_te : (s.enterListen).te = s.te := rfl
@[simp] theorem State.enterListen_pending : (s.enterListen).pending = s.pending := rfl
@[simp] theorem State.enterListen_freeIdx : (s.enterListen).freeIdx = s.freeIdx := rfl
@[simp] theorem State.enterListen_wire : (s.enterListen).wire = s.wire := rfl
@[simp] theorem State.enterListen_reads : (s.enterListen).reads = s.reads := rfl
end enterListen

section placeFrameCmd
variable (s : State) (b : Byte)
@[simp] theorem State.placeFrameCmd_params : (s.placeFrameCmd b).params = s.params := rfl
@[simp] theorem State.placeFrameCmd_opStatus : (s.placeFrameCmd b).opStatus = s.opStatus := rfl
@[simp] theorem State.placeFrameCmd_encStatus : (s.placeFrameCmd b).encStatus = s.encStatus := rfl
@[simp] theorem State.placeFrameCmd_decStatus : (s.placeFrameCmd b).decStatus = s.decStatus := rfl
@[simp] theorem State.placeFrameCmd_btStatus : (s.placeFrameCmd b).btStatus = s.btStatus := rfl
@[simp] theorem State.placeFrameCmd_irqPend : (s.placeFrameCmd b).irqPend = s.irqPend := rfl
@[simp] theorem State.placeFrameCmd_irqEn : (s.placeFrameCmd b).irqEn = s.irqEn := rfl
@[simp] theorem State.placeFrameCmd_quietMs : (s.placeFrameCmd b).quietMs = s.quietMs := rfl
@[simp] theorem State.placeFrameCmd_ifdMs : (s.placeFrameCmd b).ifdMs = s.ifdMs := rfl
@[simp] theorem State.placeFrameCmd_listenMs : (s.placeFrameCmd b).listenMs = s.listenMs := rfl
@[simp] theorem State.placeFrameCmd_busyWaitMs : (s.placeFrameCmd b).busyWaitMs = s.busyWaitMs := rfl
@[simp] theorem State.placeFrameCmd_ckSeed : (s.placeFrameCmd b).ckSeed = s.ckSeed := rfl
@[simp] theorem State.placeFrameCmd_idleMs : (s.placeFrameCmd b).idleMs = s.idleMs := rfl
@[simp] theorem State.placeFrameCmd_ifdElapsed : (s.placeFrameCmd b).ifdElapsed = s.ifdElapsed := rfl
@[simp] theorem State.placeFrameCmd_btTimer : (s.placeFrameCmd b).btTimer = s.btTimer := rfl
@[simp] theorem State.placeFrameCmd_txIdx : (s.placeFrameCmd b).txIdx = s.txIdx := rfl
@[simp] theorem State.placeFrameCmd_encDest : (s.placeFrameCmd b).encDest = s.encDest := rfl
@[simp] theorem State.placeFrameCmd_encCmd : (s.placeFrameCmd b).encCmd = (b.setWidth 16).setWidth 8 := rfl
@[simp] theorem State.placeFrameCmd_encDlen : (s.placeFrameCmd b).encDlen = s.encDlen := rfl
@[simp] theorem State.placeFrameCmd_encData : (s.placeFrameCmd b).encData = s.encData := rfl
@[simp] theorem State.placeFrameCmd_txBuf : (s.placeFrameCmd b).txBuf = s.txBuf := rfl
@[simp] theorem State.placeFrameCmd_txLen : (s.placeFrameCmd b).txLen = s.txLen := rfl
@[simp] theorem State.placeFrameCmd_rxBuf : (s.placeFrameCmd b).rxBuf = s.rxBuf := rfl
@[simp] theorem State.placeFrameCmd_rxCnt : (s.placeFrameCmd b).rxCnt = s.rxCnt := rfl
@[simp] theorem State.placeFrameCmd_decOff : (s.placeFrameCmd b).decOff = s.decOff := rfl
@[simp] theorem State.placeFrameCmd_res : (s.placeFrameCmd b).res = s.res := rfl
@[simp] theorem State.placeFrameCmd_bt : (s.placeFrameCmd b).bt = s.bt := rfl
@[simp] theorem State.placeFrameCmd_rxOvf : (s.placeFrameCmd b).rxOvf = s.rxOvf := rfl
@[simp] theorem State.placeFrameCmd_te : (s.placeFrameCmd b).te = s.te := rfl
@[simp] theorem State.placeFrameCmd_pending : (s.placeFrameCmd b).pending = s.pending := rfl
@[simp] theorem State.placeFrameCmd_freeIdx : (s.placeFrameCmd b).freeIdx = s.freeIdx := rfl
@[simp] theorem State.placeFrameCmd_wire : (s.placeFrameCmd b).wire = s.wire := rfl
@[simp] theorem State.placeFrameCmd_reads : (s.placeFrameCmd b).reads = s.reads := rfl
end placeFrameCmd

section hostRead
variable (s : State) (addr : Addr)
@[simp] theorem State.hostRead_params : (s.hostRead addr).params = s.params := rfl
@[simp] theorem State.hostRead_opStatus : (s.hostRead addr).opStatus = s.opStatus := rfl
@[simp] theorem State.hostRead_encStatus : (s.hostRead addr).encStatus = s.encStatus := rfl
@[simp] theorem State.hostRead_decStatus : (s.hostRead addr).decStatus = s.decStatus := rfl
@[simp] theorem State.hostRead_btStatus : (s.hostRead addr).btStatus = s.btStatus := rfl
@[simp] theorem State.hostRead_irqPend : (s.hostRead addr).irqPend = s.irqPend := rfl
@[simp] theorem State.hostRead_irqEn : (s.hostRead addr).irqEn = s.irqEn := rfl
@[simp] theorem State.hostRead_quietMs : (s.hostRead addr).quietMs = s.quietMs := rfl
@[simp] theorem State.hostRead_ifdMs : (s.hostRead addr).ifdMs = s.ifdMs := rfl
@[simp] theorem State.hostRead_listenMs : (s.hostRead addr).listenMs = s.listenMs := rfl
@[simp] theorem State.hostRead_busyWaitMs : (s.hostRead addr).busyWaitMs = s.busyWaitMs := rfl
@[simp] theorem State.hostRead_ckSeed : (s.hostRead addr).ckSeed = s.ckSeed := rfl
@[simp] theorem State.hostRead_idleMs : (s.hostRead addr).idleMs = s.idleMs := rfl
@[simp] theorem State.hostRead_ifdElapsed : (s.hostRead addr).ifdElapsed = s.ifdElapsed := rfl
@[simp] theorem State.hostRead_btTimer : (s.hostRead addr).btTimer = s.btTimer := rfl
@[simp] theorem State.hostRead_txIdx : (s.hostRead addr).txIdx = s.txIdx := rfl
@[simp] theorem State.hostRead_encDest : (s.hostRead addr).encDest = s.encDest := rfl
@[simp] theorem State.hostRead_encCmd : (s.hostRead addr).encCmd = s.encCmd := rfl
@[simp] theorem State.hostRead_encDlen : (s.hostRead addr).encDlen = s.encDlen := rfl
@[simp] theorem State.hostRead_encData : (s.hostRead addr).encData = s.encData := rfl
@[simp] theorem State.hostRead_txBuf : (s.hostRead addr).txBuf = s.txBuf := rfl
@[simp] theorem State.hostRead_txLen : (s.hostRead addr).txLen = s.txLen := rfl
@[simp] theorem State.hostRead_rxBuf : (s.hostRead addr).rxBuf = s.rxBuf := rfl
@[simp] theorem State.hostRead_rxCnt : (s.hostRead addr).rxCnt = s.rxCnt := rfl
@[simp] theorem State.hostRead_decOff : (s.hostRead addr).decOff = s.decOff := rfl
@[simp] theorem State.hostRead_res : (s.hostRead addr).res = s.res := rfl
@[simp] theorem State.hostRead_bt : (s.hostRead addr).bt = s.bt := rfl
@[simp] theorem State.hostRead_rxOvf : (s.hostRead addr).rxOvf = s.rxOvf := rfl
@[simp] theorem State.hostRead_te : (s.hostRead addr).te = s.te := rfl
@[simp] theorem State.hostRead_pending : (s.hostRead addr).pending = s.pending := rfl
@[simp] theorem State.hostRead_freeIdx : (s.hostRead addr).freeIdx = s.freeIdx := rfl
@[simp] theorem State.hostRead_wire : (s.hostRead addr).wire = s.wire := rfl
@[simp] theorem State.hostRead_reads : (s.hostRead addr).reads = s.reads ++ [hostValue s addr] := rfl
end hostRead

section resetBlock
variable (s : State)
@[simp] theorem State.resetBlock_params : s.resetBlock.params = s.params := rfl
@[simp] theorem State.resetBlock_opStatus : s.resetBlock.opStatus = 0 := rfl
@[simp] theorem State.resetBlock_encStatus : s.resetBlock.encStatus = 0 := rfl
@[simp] theorem State.resetBlock_decStatus : s.resetBlock.decStatus = 0 := rfl
@[simp] theorem State.resetBlock_btStatus : s.resetBlock.btStatus = 0 := rfl
@[simp] theorem State.resetBlock_irqPend : s.resetBlock.irqPend = 0 := rfl
@[simp] theorem State.resetBlock_irqEn : s.resetBlock.irqEn = 0 := rfl
@[simp] theorem State.resetBlock_quietMs : s.resetBlock.quietMs = 50 := rfl
@[simp] theorem State.resetBlock_ifdMs : s.resetBlock.ifdMs = 50 := rfl
@[simp] theorem State.resetBlock_listenMs : s.resetBlock.listenMs = 500 := rfl
@[simp] theorem State.resetBlock_busyWaitMs : s.resetBlock.busyWaitMs = 1000 := rfl
@[simp] theorem State.resetBlock_ckSeed : s.resetBlock.ckSeed = 0 := rfl
@[simp] theorem State.resetBlock_idleMs : s.resetBlock.idleMs = 0 := rfl
@[simp] theorem State.resetBlock_ifdElapsed : s.resetBlock.ifdElapsed = 0xFFFF := rfl
@[simp] theorem State.resetBlock_btTimer : s.resetBlock.btTimer = 0 := rfl
@[simp] theorem State.resetBlock_txIdx : s.resetBlock.txIdx = 0 := rfl
@[simp] theorem State.resetBlock_encDest : s.resetBlock.encDest = 0 := rfl
@[simp] theorem State.resetBlock_encCmd : s.resetBlock.encCmd = 0 := rfl
@[simp] theorem State.resetBlock_encDlen : s.resetBlock.encDlen = 0 := rfl
@[simp] theorem State.resetBlock_encData : s.resetBlock.encData = List.replicate s.params.maxData 0 := rfl
@[simp] theorem State.resetBlock_txBuf : s.resetBlock.txBuf = List.replicate (7 + s.params.maxData) 0 := rfl
@[simp] theorem State.resetBlock_txLen : s.resetBlock.txLen = 0 := rfl
@[simp] theorem State.resetBlock_rxBuf : s.resetBlock.rxBuf = List.replicate s.params.rxbufLen 0 := rfl
@[simp] theorem State.resetBlock_rxCnt : s.resetBlock.rxCnt = 0 := rfl
@[simp] theorem State.resetBlock_decOff : s.resetBlock.decOff = 0 := rfl
@[simp] theorem State.resetBlock_res : s.resetBlock.res = Results.zero s.params.maxData := rfl
@[simp] theorem State.resetBlock_bt : s.resetBlock.bt = .idle := rfl
@[simp] theorem State.resetBlock_rxOvf : s.resetBlock.rxOvf = false := rfl
@[simp] theorem State.resetBlock_te : s.resetBlock.te = false := rfl
@[simp] theorem State.resetBlock_pending : s.resetBlock.pending = s.pending := rfl
@[simp] theorem State.resetBlock_freeIdx : s.resetBlock.freeIdx = s.freeIdx := rfl
@[simp] theorem State.resetBlock_wire : s.resetBlock.wire = s.wire := rfl
@[simp] theorem State.resetBlock_reads : s.resetBlock.reads = s.reads := rfl
end resetBlock

end Sys2Proof.Machine
end

