-- ==== Sys2Proof/Laws/Ops.lean ====
section
/-! SUPPORT. One lemma per shared operation that says once everything it can do; later proofs cite these instead
of unfolding the operation. -/

namespace Sys2Proof.Machine

theorem satInc_toNat (v : Word) : (satInc v).toNat = min (v.toNat + 1) 65535 := by
  unfold satInc
  have := v.isLt
  split
  · next h => subst h; decide
  · next h =>
    have : v.toNat ≠ 65535 := fun hv => h (BitVec.eq_of_toNat_eq (by simpa using hv))
    rw [BitVec.toNat_add, show (1 : Word).toNat = 1 from rfl]
    omega

theorem clamp_toNat (v lo hi : Word) (h : lo.toNat ≤ hi.toNat) :
    (clamp v lo hi).toNat = max lo.toNat (min v.toNat hi.toNat) := by
  unfold clamp
  simp only [BitVec.lt_def]
  split
  · omega
  · split <;> omega

/-- A CMD write's verdict (R103): BUSY, or accepted and performed. -/
theorem issue_cases (op : BitVec 4) (busy : Bool) (perform : State → State) (s : State) :
    (busy = true ∧ issue op busy perform s = .next (s.refuseOp .busy op)) ∨
    (busy = false ∧ issue op busy perform s = .next (perform (s.acceptOp op))) := by
  cases busy <;> simp [issue]

/-- EvalWait (R192): nothing, StartTx, or give up. -/
theorem evalWait_cases (s : State) :
    (s.bt ≠ .wait ∧ s.evalWait = s) ∨
    (s.bt = .wait ∧ s.quietMs ≤ s.idleMs ∧ s.ifdMs ≤ s.ifdElapsed ∧ s.evalWait = s.startTx) ∨
    (s.bt = .wait ∧ ¬ (s.quietMs ≤ s.idleMs ∧ s.ifdMs ≤ s.ifdElapsed) ∧ s.busyWaitMs ≤ s.btTimer ∧
      s.evalWait = s.completeTx .busBusy) ∨
    (s.bt = .wait ∧ ¬ (s.quietMs ≤ s.idleMs ∧ s.ifdMs ≤ s.ifdElapsed) ∧ ¬ s.busyWaitMs ≤ s.btTimer ∧
      s.evalWait = s) := by
  unfold State.evalWait State.lineQuiet State.ifdMet
  by_cases h : s.bt = .wait <;> by_cases h1 : s.quietMs ≤ s.idleMs <;>
    by_cases h2 : s.ifdMs ≤ s.ifdElapsed <;> by_cases h3 : s.busyWaitMs ≤ s.btTimer <;>
    simp [h, h1, h2, h3]

/-- EvalListen (R197): nothing, or the window closes with OK or TIMEOUT. -/
theorem evalListen_cases (s : State) :
    (¬ (s.bt = .listen ∧ s.listenMs ≤ s.btTimer) ∧ s.evalListen = s) ∨
    (s.bt = .listen ∧ s.listenMs ≤ s.btTimer ∧ s.rxCnt ≠ 0 ∧ s.evalListen = s.completeListen .ok) ∨
    (s.bt = .listen ∧ s.listenMs ≤ s.btTimer ∧ s.rxCnt = 0 ∧ s.evalListen = s.completeListen .timeout) := by
  unfold State.evalListen
  by_cases h : s.bt = .listen <;> by_cases h1 : s.listenMs ≤ s.btTimer <;> by_cases h2 : s.rxCnt = 0#16 <;>
    simp [h, h1, h2]

/-- TICK (R201): at most one of EvalWait and EvalListen acts. -/
theorem tickEvent_cases (s : State) :
    (s.bt = .wait ∧ s.tickEvent = s.advanceCounters.evalWait) ∨
    (s.bt = .listen ∧ s.tickEvent = s.advanceCounters.evalListen) ∨
    (s.bt ≠ .wait ∧ s.bt ≠ .listen ∧ s.tickEvent = s.advanceCounters) := by
  unfold State.tickEvent
  rcases evalWait_cases s.advanceCounters with ⟨h, he⟩ | ⟨h, -, -, he⟩ | ⟨h, -, -, he⟩ | ⟨h, -, -, he⟩
  · rw [he]
    rcases evalListen_cases s.advanceCounters with ⟨h2, he2⟩ | ⟨h2, -, -, -⟩ | ⟨h2, -, -, -⟩
    · by_cases hl : s.bt = .listen
      · exact .inr (.inl ⟨hl, rfl⟩)
      · exact .inr (.inr ⟨by simpa using h, hl, he2⟩)
    · exact .inr (.inl ⟨by simpa using h2, rfl⟩)
    · exact .inr (.inl ⟨by simpa using h2, rfl⟩)
  · refine .inl ⟨by simpa using h, ?_⟩
    rw [he]; simp [State.evalListen]
  · refine .inl ⟨by simpa using h, ?_⟩
    rw [he]; simp [State.evalListen]
  · refine .inl ⟨by simpa using h, ?_⟩
    rw [he]; simp [State.evalListen, State.advanceCounters, show s.bt = .wait by simpa using h]

/-- RX (R198 to R200): not seen, activity only, stored, or dropped with the overflow flags. -/
theorem rxEvent_cases (s : State) (b : Byte) :
    (s.te = true ∧ s.rxEvent b = s) ∨
    (s.te = false ∧ s.bt ≠ .listen ∧ s.rxEvent b = { s with idleMs := 0 }) ∨
    (s.te = false ∧ s.bt = .listen ∧ s.rxCnt.toNat < s.params.rxbufLen ∧
      s.rxEvent b = { s with idleMs := 0, rxBuf := s.rxBuf.set s.rxCnt.toNat b, rxCnt := s.rxCnt + 1 }) ∨
    (s.te = false ∧ s.bt = .listen ∧ s.params.rxbufLen ≤ s.rxCnt.toNat ∧
      s.rxEvent b = { s with idleMs := 0, rxOvf := true, irqPend := s.irqPend ||| irqRxOvf }) := by
  unfold State.rxEvent State.receive State.storeRx State.raiseIrq
  by_cases h : s.te = true <;> by_cases h1 : s.bt = .listen <;>
    by_cases h2 : s.rxCnt.toNat < s.params.rxbufLen <;> simp_all

/-- `tx_data` while it is valid (R65). -/
theorem txData_of_txOffered {s : State} (h : s.txOffered = true) : s.txData = s.txBuf.getD s.txIdx.toNat 0 := by
  simp [State.txData, h]

/-- TXACCEPT (R194): not enabled, or one byte leaves. -/
theorem txAcceptEvent_cases (s : State) :
    (s.txOffered = false ∧ s.txAcceptEvent = s) ∨
    (s.bt = .tx ∧ s.txIdx.toNat < s.txLen.toNat ∧
      s.txAcceptEvent = { s with wire := s.wire ++ [s.txBuf.getD s.txIdx.toNat 0], txIdx := s.txIdx + 1 }) := by
  unfold State.txAcceptEvent
  by_cases h : s.txOffered = true
  · right
    have h' := h
    simp only [State.txOffered, Bool.and_eq_true, decide_eq_true_eq, BitVec.lt_def,
      BitVec.toNat_setWidth] at h'
    have := s.txLen.isLt
    exact ⟨h'.1, by omega, by simp [h, txData_of_txOffered h]⟩
  · left; simp [h]

/-- TXDRAIN (R195): not enabled, or the transmission ends OK. -/
theorem txDrainEvent_cases (s : State) :
    (s.txDrained = false ∧ s.txDrainEvent = s) ∨
    (s.bt = .tx ∧ s.txIdx.toNat = s.txLen.toNat ∧
      s.txDrainEvent = { s with
        te := false, idleMs := 0, ifdElapsed := 0, bt := .idle,
        btStatus := statusWord .ok (flagField false), irqPend := s.irqPend ||| irqTxDone }) := by
  unfold State.txDrainEvent
  by_cases h : s.txDrained = true
  · right
    have h' := h
    simp only [State.txDrained, Bool.and_eq_true, decide_eq_true_eq] at h'
    refine ⟨h'.1, ?_, by simp [h, State.completeTx, State.raiseIrq]⟩
    have := s.txLen.isLt
    rw [h'.2, BitVec.toNat_setWidth]; omega
  · left; simp [h]

/-- A host write (R73): it issues the instruction its word decodes to, or it is a plain write. -/
theorem hostWrite_cases (addr : Addr) (v : Word) (s : State) :
    (∃ i, hostInstr addr v = some i ∧ hostWrite addr v s = exec i s) ∨
    (hostInstr addr v = none ∧ hostWrite addr v s = .next (s.hostPlainWrite addr v)) := by
  unfold hostWrite
  cases h : hostInstr addr v with
  | none => exact .inr ⟨rfl, rfl⟩
  | some i => exact .inl ⟨i, rfl, rfl⟩

/-- A plain host write (R72, R75, R102): ILLEGAL_OP, ignored, or one register's write. -/
theorem hostPlainWrite_cases (addr : Addr) (v : Word) (s : State) :
    (addr = 0x000#12 ∧ s.hostPlainWrite addr v = s.refuseOp .illegalOp (opField v)) ∨
    (addr ≠ 0x000#12 ∧ regAt s.params addr = none ∧ s.hostPlainWrite addr v = s) ∨
    (∃ r, addr ≠ 0x000#12 ∧ regAt s.params addr = some r ∧ s.hostPlainWrite addr v = writeReg s v r) := by
  unfold State.hostPlainWrite State.hostStore
  by_cases h : addr = 0x000#12
  · simp [h]
  · cases hr : regAt s.params addr with
    | none => exact .inr (.inl ⟨h, rfl, by simp [h]⟩)
    | some r => exact .inr (.inr ⟨r, h, rfl, by simp [h]⟩)

theorem opField_toNat (v : Word) : (opField v).toNat = v.toNat % 16 := by
  simp [opField, BitVec.extractLsb'_toNat]

theorem rsvField_toNat (v : Word) : (rsvField v).toNat = v.toNat / 16 := by
  have := v.isLt
  simp only [rsvField, BitVec.extractLsb'_toNat, Nat.shiftRight_eq_div_pow]
  omega

theorem rsvField_eq_zero {v : Word} : rsvField v = 0 ↔ v.toNat < 16 := by
  rw [← BitVec.toNat_inj, rsvField_toNat]
  simp only [BitVec.ofNat_eq_ofNat, BitVec.toNat_ofNat]
  omega

theorem word_of_fields {v : Word} {k : BitVec 4} (h : rsvField v = 0) (hk : opField v = k) :
    v = k.setWidth 16 := by
  subst hk
  apply BitVec.eq_of_toNat_eq
  rw [BitVec.toNat_setWidth, opField_toNat]
  have := rsvField_eq_zero.1 h
  omega

/-- A CMD value is an instruction only at its own code of R101. -/
theorem decodeCmd16_ok {v : Word} {i : Instr} (h : decodeCmd16 v = .ok i) :
    (v = 0x0000#16 ∧ i = .nop) ∨ (v = 0x0001#16 ∧ i = .encode) ∨ (v = 0x0002#16 ∧ i = .decode) ∨
    (v = 0x0003#16 ∧ i = .transmit) ∨ (v = 0x0004#16 ∧ i = .listen) ∨ (v = 0x0005#16 ∧ i = .cancel) := by
  unfold decodeCmd16 at h
  split at h
  · cases h
  · next hr =>
    have hr : rsvField v = 0 := by simpa using hr
    repeat' split at h
    all_goals first | (cases h; rename_i hk; rw [word_of_fields hr hk]; decide) | cases h

/-- A frame command byte is an instruction only at its own value of R110. -/
theorem decodeFrameCmd8_ok {b : Byte} {i : Instr} (h : decodeFrameCmd8 b = .ok i) :
    (b = 0x00#8 ∧ i = .frameTakeover) ∨ (b = 0x11#8 ∧ i = .frameSetOutput) ∨
    (b = 0x12#8 ∧ i = .frameReadSalinity) ∨ (b = 0x14#8 ∧ i = .frameGetVersion) ∨
    (b = 0x15#8 ∧ i = .frameGetTemperature) := by
  unfold decodeFrameCmd8 at h
  repeat' split at h
  all_goals first | (cases h; rename_i hk; rw [hk]; decide) | cases h

/-- The instruction a host write issues (R101, R110): six values of CMD, five low bytes of ENC_CMD. -/
theorem hostInstr_some {addr : Addr} {v : Word} {i : Instr} (h : hostInstr addr v = some i) :
    (addr = 0x000#12 ∧ decodeCmd16 v = .ok i) ∨
    (addr = 0x019#12 ∧ decodeFrameCmd8 (v.setWidth 8) = .ok i) := by
  unfold hostInstr hostWordOf at h
  by_cases h0 : addr = 0x000#12
  · subst h0
    simp only [if_true, decode] at h
    split at h
    · cases h; next hd => exact .inl ⟨rfl, hd⟩
    · cases h
  · by_cases h1 : addr = 0x019#12
    · subst h1
      simp only [show ¬ (0x019#12 = 0x000#12) by decide, if_false, if_true, decode] at h
      split at h
      · cases h; next hd => exact .inr ⟨rfl, hd⟩
      · cases h
    · simp [h0, h1] at h

/-- A CMD value that decodes issues its instruction (R101). -/
theorem hostInstr_cmd {v : Word} {i : Instr} (h : decodeCmd16 v = .ok i) : hostInstr 0x000#12 v = some i := by
  simp [hostInstr, hostWordOf, decode, h]

/-- A known frame command byte written to ENC_CMD issues its instruction (R110, log 5). -/
theorem hostInstr_encCmd {v : Word} {i : Instr} (h : decodeFrameCmd8 (v.setWidth 8) = .ok i) :
    hostInstr 0x019#12 v = some i := by
  simp [hostInstr, hostWordOf, decode, h]

/-- A write anywhere else issues no instruction. -/
theorem hostInstr_other {addr : Addr} {v : Word} (h0 : addr ≠ 0x000#12) (h1 : addr ≠ 0x019#12) :
    hostInstr addr v = none := by
  simp [hostInstr, hostWordOf, h0, h1]

/-- A write of ENC_CMD stores `v[7:0]`, whether or not the byte is a known frame command (R42, R110). -/
theorem hostWrite_encCmd (v : Word) (s : State) :
    hostWrite 0x019#12 v s = .next { s with encCmd := v.setWidth 8 } := by
  have hp : s.hostPlainWrite 0x019#12 v = { s with encCmd := v.setWidth 8 } := rfl
  rcases hostWrite_cases 0x019#12 v s with ⟨i, hi, he⟩ | ⟨-, he⟩
  · rcases hostInstr_some hi with ⟨h, -⟩ | ⟨-, hd⟩
    · exact absurd h (by decide)
    · rw [he]
      rcases decodeFrameCmd8_ok hd with ⟨hb, rfl⟩ | ⟨hb, rfl⟩ | ⟨hb, rfl⟩ | ⟨hb, rfl⟩ | ⟨hb, rfl⟩ <;>
        rw [hb] <;> rfl
  · rw [he, hp]

/-- A write of any register but CMD is that register's write; at an unmapped address it is ignored. -/
theorem hostWrite_store {addr : Addr} (h0 : addr ≠ 0x000#12) (v : Word) (s : State) :
    hostWrite addr v s = .next (s.hostStore addr v) := by
  by_cases h1 : addr = 0x019#12
  · subst h1; rw [hostWrite_encCmd]; rfl
  · unfold hostWrite
    rw [hostInstr_other h0 h1]
    simp [State.hostPlainWrite, h0]

/-- The meaning of each instruction as one next state: refused BUSY, or accepted and performed. -/
theorem exec_eq (i : Instr) (s : State) : exec i s = .next (match i with
    | .nop => s.acceptOp 0x0
    | .encode => if s.bt = .wait ∨ s.bt = .tx then s.refuseOp .busy 0x1 else performEncode (s.acceptOp 0x1)
    | .decode => performDecode (s.acceptOp 0x2)
    | .transmit => if s.bt = .idle then performTransmit (s.acceptOp 0x3) else s.refuseOp .busy 0x3
    | .listen => if s.bt = .idle then performListen (s.acceptOp 0x4) else s.refuseOp .busy 0x4
    | .cancel => if s.bt = .tx then s.refuseOp .busy 0x5 else performCancel (s.acceptOp 0x5)
    | .frameTakeover => { s with encCmd := 0x00 }
    | .frameSetOutput => { s with encCmd := 0x11 }
    | .frameReadSalinity => { s with encCmd := 0x12 }
    | .frameGetVersion => { s with encCmd := 0x14 }
    | .frameGetTemperature => { s with encCmd := 0x15 }) := by
  cases i <;> simp only [exec, execNop, execEncode, execDecode, execTransmit, execListen, execCancel, issue,
    busyNop, busyEncode, busyDecode, busyTransmit, busyListen, busyCancel, decide_eq_true_eq] <;>
    first | rfl | (split <;> simp_all)

/-- The register of an array window that an address names lies inside the window (R71). -/
theorem windowIndex_some {base len a i : Nat} (h : windowIndex base len a = some i) :
    i < len ∧ a = base + i := by
  unfold windowIndex at h
  split at h
  · cases h; omega
  · cases h

end Sys2Proof.Machine
end

