-- ==== Sys2Proof/Laws/Registers.lean ====
section
/-! SUPPORT. The register map R71: each register has one address, each mapped address one register, and the
array windows lie where R71 puts them. -/

namespace Sys2Proof.Machine

/-- The address R71 gives a register. -/
def regAddr : Reg → Nat
  | .cmd => 0x000 | .opStatus => 0x001 | .status => 0x002 | .encStatus => 0x003 | .decStatus => 0x004
  | .btStatus => 0x005 | .irqPend => 0x006 | .irqEn => 0x007 | .quietMs => 0x008 | .ifdMs => 0x009
  | .listenMs => 0x00A | .busyWaitMs => 0x00B | .ckSeed => 0x00C | .maxDataR => 0x00D | .rxbufLenR => 0x00E
  | .idleMs => 0x00F | .ifdElapsed => 0x010 | .btTimer => 0x011 | .txIdx => 0x012
  | .encDest => 0x018 | .encCmd => 0x019 | .encDlen => 0x01A | .txLen => 0x01B | .rxCnt => 0x01C
  | .decOff => 0x01D | .resDest => 0x020 | .resCmd => 0x021 | .resDlen => 0x022 | .resCk => 0x023
  | .resCalc => 0x024 | .resStart => 0x025 | .resEnd => 0x026
  | .encData i => 0x100 + i | .txBuf i => 0x200 + i | .resData i => 0x300 + i | .rxBuf i => 0x400 + i

/-- The single registers of R71 stand at their addresses. -/
theorem singleReg_addr {a : Nat} {r : Reg} (h : singleReg a = some r) : a = regAddr r := by
  unfold singleReg at h
  split at h <;> first | (cases h; rfl) | cases h

/-- A mapped address names the register that R71 puts there. -/
theorem regAt_addr {p : Params} {a : Addr} {r : Reg} (h : regAt p a = some r) : a.toNat = regAddr r := by
  unfold regAt at h
  dsimp only at h
  split at h
  · exact singleReg_addr h
  · split at h
    · obtain ⟨i, hi, rfl⟩ := Option.map_eq_some_iff.1 h; exact (windowIndex_some hi).2
    · split at h
      · obtain ⟨i, hi, rfl⟩ := Option.map_eq_some_iff.1 h; exact (windowIndex_some hi).2
      · split at h
        · obtain ⟨i, hi, rfl⟩ := Option.map_eq_some_iff.1 h; exact (windowIndex_some hi).2
        · obtain ⟨i, hi, rfl⟩ := Option.map_eq_some_iff.1 h; exact (windowIndex_some hi).2

/-- Two addresses that name one register are equal. -/
theorem regAt_inj {p q : Params} {a b : Addr} {r : Reg} (ha : regAt p a = some r) (hb : regAt q b = some r) :
    a = b :=
  BitVec.eq_of_toNat_eq ((regAt_addr ha).trans (regAt_addr hb).symm)

theorem legal_iff (p : Params) :
    p.legal = true ↔ p.maxData ≤ 248 ∧ 7 + p.maxData ≤ p.rxbufLen ∧ p.rxbufLen ≤ 3072 := by
  simp [Params.legal, Params.maxDataOk, Params.rxbufLenOk]

/-- Below 0x100 the map is that of the single registers. -/
theorem regAt_single (p : Params) {a : Addr} (h : a.toNat < 0x100) : regAt p a = singleReg a.toNat := by
  simp [regAt, h]

theorem regAt_encData {p : Params} (hp : p.legal = true) {a : Addr} {i : Nat} (hi : i < p.maxData)
    (ha : a.toNat = 0x100 + i) : regAt p a = some (.encData i) := by
  have := (legal_iff p).1 hp
  unfold regAt windowIndex
  simp only [ha, show ¬ (0x100 + i < 0x100) by omega, show 0x100 + i < 0x200 by omega, if_true, if_false]
  rw [if_pos (by omega)]
  simp

theorem regAt_txBuf {p : Params} (hp : p.legal = true) {a : Addr} {i : Nat} (hi : i < 7 + p.maxData)
    (ha : a.toNat = 0x200 + i) : regAt p a = some (.txBuf i) := by
  have := (legal_iff p).1 hp
  unfold regAt windowIndex Params.txbufLen
  simp only [ha, show ¬ (0x200 + i < 0x100) by omega, show ¬ (0x200 + i < 0x200) by omega,
    show 0x200 + i < 0x300 by omega, if_true, if_false]
  rw [if_pos (by omega)]
  simp

theorem regAt_resData {p : Params} (hp : p.legal = true) {a : Addr} {i : Nat} (hi : i < p.maxData)
    (ha : a.toNat = 0x300 + i) : regAt p a = some (.resData i) := by
  have := (legal_iff p).1 hp
  unfold regAt windowIndex
  simp only [ha, show ¬ (0x300 + i < 0x100) by omega, show ¬ (0x300 + i < 0x200) by omega,
    show ¬ (0x300 + i < 0x300) by omega, show 0x300 + i < 0x400 by omega, if_true, if_false]
  rw [if_pos (by omega)]
  simp

theorem regAt_rxBuf {p : Params} (hp : p.legal = true) {a : Addr} {i : Nat} (hi : i < p.rxbufLen)
    (ha : a.toNat = 0x400 + i) : regAt p a = some (.rxBuf i) := by
  have := (legal_iff p).1 hp
  unfold regAt windowIndex
  simp only [ha, show ¬ (0x400 + i < 0x100) by omega, show ¬ (0x400 + i < 0x200) by omega,
    show ¬ (0x400 + i < 0x300) by omega, show ¬ (0x400 + i < 0x400) by omega, if_false]
  rw [if_pos (by omega)]
  simp

/-- A register's write leaves the parameters, BT_STATE and TE, TXBUF, TXLEN, the results and the status registers
as they are (R75, R80). -/
theorem writeReg_frame (s : State) (v : Word) (r : Reg) :
    (writeReg s v r).params = s.params ∧ (writeReg s v r).bt = s.bt ∧ (writeReg s v r).te = s.te ∧
    (writeReg s v r).txBuf = s.txBuf ∧ (writeReg s v r).txLen = s.txLen ∧ (writeReg s v r).txIdx = s.txIdx ∧
    (writeReg s v r).res = s.res ∧ (writeReg s v r).opStatus = s.opStatus ∧
    (writeReg s v r).encStatus = s.encStatus ∧ (writeReg s v r).decStatus = s.decStatus ∧
    (writeReg s v r).btStatus = s.btStatus ∧ (writeReg s v r).idleMs = s.idleMs ∧
    (writeReg s v r).ifdElapsed = s.ifdElapsed ∧ (writeReg s v r).btTimer = s.btTimer ∧
    (writeReg s v r).rxOvf = s.rxOvf ∧ (writeReg s v r).pending = s.pending ∧
    (writeReg s v r).freeIdx = s.freeIdx ∧ (writeReg s v r).wire = s.wire ∧ (writeReg s v r).reads = s.reads := by
  cases r <;> simp only [writeReg] <;> first | simp | (split <;> simp)

end Sys2Proof.Machine
end

