-- ==== Sys2Proof/Tests/Slice0.lean ====
section
/-! SUPPORT. The model's own tests: the checks of WellFormed, every constructor's word, single steps with the
results that spec/95_test_vectors.md gives (a vector's name stands in the docstring), and, for each statement of
Certificates/Slice0/Obligations.lean that has hypotheses, a concrete case that meets them. -/

namespace Sys2Proof.Tests

open Sys2Proof Sys2Proof.Machine

/-! ## WellFormed: each check refuses an ill-formed term -/

theorem test_wf_reserved_bits : (CmdWord.cmd16 0x0011#16).wf = false ∧ rsvOk 0x0011#16 = false := by decide
theorem test_wf_reserved_operation : (CmdWord.cmd16 0x0006#16).wf = false ∧ opOk 0x0006#16 = false := by decide
theorem test_wf_unknown_frame_command :
    (CmdWord.frameCmd8 0x13#8).wf = false ∧ frameCmdOk 0x13#8 = false := by decide
theorem test_wf_max_data : (Params.mk 249 300).maxDataOk = false ∧ (Params.mk 248 255).legal = true := by decide
theorem test_wf_rxbuf_len : (Params.mk 29 35).rxbufLenOk = false ∧ (Params.mk 29 3073).rxbufLenOk = false ∧
    (Params.mk 29 36).legal = true ∧ (Params.mk 29 3072).legal = true := by decide

/-! ## Decode: each constructor's word, written out from R101 and R110 -/

theorem test_decode_nop : decodeTableWord 16 0b0000000000000000 = some .nop := by decide
theorem test_decode_encode : decodeTableWord 16 0b0000000000000001 = some .encode := by decide
theorem test_decode_decode : decodeTableWord 16 0b0000000000000010 = some .decode := by decide
theorem test_decode_transmit : decodeTableWord 16 0b0000000000000011 = some .transmit := by decide
theorem test_decode_listen : decodeTableWord 16 0b0000000000000100 = some .listen := by decide
theorem test_decode_cancel : decodeTableWord 16 0b0000000000000101 = some .cancel := by decide
theorem test_decode_frameTakeover : decodeTableWord 8 0b00000000 = some .frameTakeover := by decide
theorem test_decode_frameSetOutput : decodeTableWord 8 0b00010001 = some .frameSetOutput := by decide
theorem test_decode_frameReadSalinity : decodeTableWord 8 0b00010010 = some .frameReadSalinity := by decide
theorem test_decode_frameGetVersion : decodeTableWord 8 0b00010100 = some .frameGetVersion := by decide
theorem test_decode_frameGetTemperature : decodeTableWord 8 0b00010101 = some .frameGetTemperature := by decide
theorem test_decode_rejects_by_name :
    decodeBits 16 0x0006 = .error (.reservedOperation 6) ∧ decodeBits 16 0x0011 = .error (.reservedBits 17) ∧
    decodeBits 8 0x13 = .error (.unknownFrameCommand 0x13) ∧
    decodeBits 24 0 = .error (.noSuchFormat 24 0) := by decide

/-! ## Single steps -/

/-- The next state, if there is one. -/
def after : Host.Outcome State Fault Refusal → Option State
  | .next t => some t
  | .fault _ => none
  | .refused _ => none

/-- Reset, then ENC_DEST, ENC_CMD, DATA as given. -/
def encIn (dest cmd dlen : Byte) (data : List Byte) : State :=
  { State.reset with
    encDest := dest, encCmd := cmd, encDlen := dlen, encData := data ++ List.replicate (29 - data.length) 0 }

/-- Reset, then the host loads `win` into RXBUF. -/
def loaded (win : List Byte) : State :=
  { State.reset with
    rxBuf := win ++ List.replicate (256 - win.length) 0, rxCnt := BitVec.ofNat 16 win.length }

/-- Reset, then the frame of ENC-2 in TXBUF. -/
def framed : State :=
  { State.reset with
    txBuf := [0x10, 0x02, 0x50, 0x14, 0x64, 0x10, 0x03] ++ List.replicate 29 0, txLen := 7 }

/-- `framed`, waiting since its TRANSMIT. -/
def waiting : State := { framed with bt := .wait, opStatus := 0x0031 }

/-- BT-8: `framed` after 50 TICKs, sending. -/
def sending : State := { framed with bt := .tx, te := true, idleMs := 50, opStatus := 0x0031 }

/-- `sending` with every byte handed over. -/
def sent : State := { sending with txIdx := 7, wire := [0x10, 0x02, 0x50, 0x14, 0x64, 0x10, 0x03] }

/-- Reset, then LISTEN. -/
def listening : State := { State.reset with bt := .listen, opStatus := 0x0041 }

/-- The smallest legal parameters, the receive buffer full. -/
def full : State := { State.resetOf ⟨0, 7⟩ with bt := .listen, rxCnt := 7 }

/-- CMD-1. -/
theorem test_nop : (after (exec .nop State.reset)).map (·.opStatus) = some 0x0001 := by decide

/-- SRC-1. -/
theorem test_encode : (after (exec .encode (encIn 0x50 0x11 1 [0x32]))).map
    (fun t => (t.txBuf.take 8, t.txLen, t.encStatus, t.opStatus)) =
    some ([0x10, 0x02, 0x50, 0x11, 0x32, 0x93, 0x10, 0x03], 8, 0x0001, 0x0011) := by decide

/-- ENC-10: a frame that is not transparent. -/
theorem test_encode_warns : (after (exec .encode (encIn 0x50 0x11 2 [0x10, 0x03]))).map
    (fun t => (t.txBuf.take 9, t.encStatus)) =
    some ([0x10, 0x02, 0x50, 0x11, 0x10, 0x03, 0x74, 0x10, 0x03], 0x0011) := by decide

/-- DEC-5: bytes before the header. -/
theorem test_decode_op : (after (exec .decode (loaded [0xFF, 0x10, 0x02, 0x00, 0x12, 0x40, 0x00, 0x52, 0x10, 0x03]))).map
    (fun t => (t.decStatus, t.res.cmd, t.res.data.take 3, t.res.start, t.res.stop)) =
    some (0x0001, 0x12, [0x40, 0x00, 0x00], 1, 10) := by decide

/-- SRC-2: the bytes as the source prints them do not check. -/
theorem test_decode_op_bad_sum :
    (after (exec .decode (loaded [0x10, 0x02, 0x00, 0x12, 0x40, 0x00, 0x1A, 0x10, 0x03]))).map
    (fun t => (t.decStatus, t.res.ck, t.res.calcSum, t.res.stop)) = some (0x0063, 0x1A, 0x52, 9) := by decide

/-- BT-8: the gate is open at issue. -/
theorem test_transmit : (after (exec .transmit { framed with idleMs := 50 })).map
    (fun t => (t.statusView, t.btTimer)) = some (0x001E, 0) := by decide

/-- BT-6: no wait allowed. -/
theorem test_transmit_bus_busy : (after (exec .transmit { framed with busyWaitMs := 0 })).map
    (fun t => (t.btStatus, t.irqPend, t.bt)) = some (0x0007, 0x0001, .idle) := by decide

/-- BT-11, its first event. -/
theorem test_listen : (after (exec .listen State.reset)).map (fun t => (t.statusView, t.rxCnt)) =
    some (0x0013, 0) := by decide

/-- BT-12. -/
theorem test_listen_zero : (after (exec .listen { State.reset with listenMs := 0 })).map
    (fun t => (t.btStatus, t.irqPend, t.bt)) = some (0x0015, 0x0002, .idle) := by decide

/-- BT-17. -/
theorem test_cancel : (after (exec .cancel waiting)).map (fun t => (t.btStatus, t.irqPend, t.statusView)) =
    some (0x0006, 0x0001, 0x0010) := by decide

/-- BT-15. -/
theorem test_cancel_refused : (after (exec .cancel sending)).map (fun t => (t.opStatus, t.irqPend, t.bt)) =
    some (0x0058, 0x0004, .tx) := by decide

theorem test_frameTakeover : (after (exec .frameTakeover (encIn 0x50 0x11 1 [0x32]))).map (·.encCmd) =
    some 0x00 := by decide
theorem test_frameSetOutput : (after (exec .frameSetOutput State.reset)).map (·.encCmd) = some 0x11 := by decide
theorem test_frameReadSalinity : (after (exec .frameReadSalinity State.reset)).map (·.encCmd) =
    some 0x12 := by decide
theorem test_frameGetVersion : (after (exec .frameGetVersion State.reset)).map (·.encCmd) = some 0x14 := by decide
theorem test_frameGetTemperature : (after (exec .frameGetTemperature State.reset)).map (·.encCmd) =
    some 0x15 := by decide

/-- CMD-3: reserved bits, so no ENCODE happens. -/
theorem test_illegal_command : (after (runEvent (.hostWrite 0x000 0x0011) State.reset)).map
    (fun t => (t.opStatus, t.irqPend, t.txLen)) = some (0x0019, 0x0004, 0) := by decide

/-- CMD-8. -/
theorem test_irq_clear : (after (runEvent (.hostWrite 0x006 0x0001) { State.reset with irqPend := 0x0005 })).map
    (·.irqPend) = some 0x0004 := by decide

/-- BT-20. -/
theorem test_quiet_clamped : (after (runEvent (.hostWrite 0x008 200) State.reset)).map (·.quietMs) =
    some 150 := by decide

/-- BT-5, its last TICK: the start test comes before the give-up test. -/
theorem test_tick_starts : (after (runEvent .tick { waiting with busyWaitMs := 50, idleMs := 49, btTimer := 49 })).map
    (fun t => (t.statusView, t.idleMs)) = some (0x001E, 50) := by decide

/-- BT-22: saturation. -/
theorem test_tick_saturates : (after (runEvent .tick { State.reset with idleMs := 0xFFFF })).map
    (fun t => (t.idleMs, t.ifdElapsed, t.btTimer)) = some (0xFFFF, 0xFFFF, 0) := by decide

/-- BT-14 at the smallest buffer: the byte is dropped. -/
theorem test_rx_overflow : (after (runEvent (.rx 0x55) full)).map
    (fun t => (t.rxCnt, t.rxOvf, t.irqPend, t.statusView)) = some (7, true, 0x0008, 0x0033) := by decide

/-- BT-9, BT-1c. -/
theorem test_drain : (after (runEvent .txDrain sent)).map
    (fun t => (t.btStatus, t.irqPend, t.idleMs, t.ifdElapsed, t.te)) = some (0x0001, 0x0001, 0, 0, false) := by decide

/-- RST-2. -/
theorem test_reset_while_sending : (after (runEvent .reset { sending with txIdx := 3 })).map
    (fun t => (t.te, t.bt, t.btStatus, t.irqPend, t.txLen)) = some (false, .idle, 0, 0, 0) := by decide

/-! ## Witnesses: a case that meets a statement's hypotheses -/

/-! The test states are states of the invariant. -/

theorem test_inv_reset : State.reset.Inv := by decide +kernel
theorem test_inv_framed : framed.Inv := by decide +kernel
theorem test_inv_waiting : waiting.Inv := by decide +kernel
theorem test_inv_sending : sending.Inv := by decide +kernel
theorem test_inv_sent : sent.Inv := by decide +kernel
theorem test_inv_listening : listening.Inv := by decide +kernel
theorem test_inv_full : full.Inv := by decide +kernel
theorem test_inv_enc : (encIn 0x50 0x11 29 []).Inv ∧ (encIn 0x50 0x11 30 []).Inv :=
  ⟨by decide +kernel, by decide +kernel⟩
theorem test_inv_loaded : (loaded [0x10, 0x02, 0x50, 0x14, 0x64, 0x10, 0x03]).Inv ∧
    (loaded [0x10, 0x02, 0x50, 0x11, 0x32, 0x93, 0x10, 0x03, 0x10, 0x03]).Inv :=
  ⟨by decide +kernel, by decide +kernel⟩

/-- The payload of ENC-1 is transparent, that of ENC-10 is not: its first inner footer is at 2. -/
theorem test_transparent : Transparent (payload 0 0x50 0x11 [0x32]) :=
  notTransparent_eq_false.mp (by decide)
theorem test_not_transparent : FirstPairAt 0x10 0x03 (payload 0 0x50 0x11 [0x10, 0x03]) 0 2 :=
  findPair_eq_some.mp (by decide)
theorem test_not_transparent_not : ¬ Transparent (payload 0 0x50 0x11 [0x10, 0x03]) :=
  fun h => by have := notTransparent_eq_false.mpr h; revert this; decide

theorem test_witness_ReservedCommandWordsRejected :
    16 ≤ (0x0010#16).toNat ∧ 16 ≤ (0xFFFF#16).toNat ∧ (6 ≤ (0x0006#16).toNat ∧ (0x0006#16).toNat < 16) ∧
    (6 ≤ (0x000F#16).toNat ∧ (0x000F#16).toNat < 16) ∧ (0x0005#16).toNat < 6 := by decide

theorem test_witness_StepRunsDecodedInstruction :
    decode (.cmd16 0x0005#16) = .ok .cancel ∧
    { State.reset with pending := [.hostWrite 0x000 0x0005] }.pending = .hostWrite 0x000#12 0x0005#16 :: [] ∧
    decode (.frameCmd8 ((0x0115#16).setWidth 8)) = .ok .frameGetTemperature ∧
    { State.reset with pending := [.hostWrite 0x019 0x0115] }.pending = .hostWrite 0x019#12 0x0115#16 :: [] ∧
    decodeTableWord 8 0x15 = some .frameGetTemperature := by decide

theorem test_witness_EventsDoNotReadAhead : ∃ t, runEvent .tick waiting = .next t := ⟨_, rfl⟩

theorem test_witness_ResetMeetsInvariants : (Params.mk 0 7).legal = true ∧ (Params.mk 248 3072).legal = true := by
  decide

theorem test_witness_StepKeepsInvariant :
    { sending with pending := [.txAccept] }.Inv ∧ ∃ t, step { sending with pending := [.txAccept] } = .next t :=
  ⟨test_inv_sending, _, rfl⟩

theorem test_witness_StepKeepsResultsValid :
    { State.reset with pending := [.hostWrite 0x000 0x0002] }.Inv ∧
    { State.reset with pending := [.hostWrite 0x000 0x0002] }.ResultsValid ∧
    ∃ t, step { State.reset with pending := [.hostWrite 0x000 0x0002] } = .next t :=
  ⟨test_inv_reset, by decide +kernel, _, rfl⟩

theorem test_witness_StepKeepsWholeFrame :
    { framed with pending := [.hostWrite 0x000 0x0003] }.Inv ∧
    { framed with pending := [.hostWrite 0x000 0x0003] }.HoldsFrame ∧ framed.txLen ≠ 0 ∧
    ∃ t, step { framed with pending := [.hostWrite 0x000 0x0003] } = .next t :=
  ⟨test_inv_framed, fun _ => ⟨0, 0x50, 0x14, [], by decide, by decide⟩, by decide, _, rfl⟩

theorem test_witness_StepKeepsWireOrder :
    { sent with pending := [.txDrain] }.Inv ∧ { sent with pending := [.txDrain] }.WireInOrder ∧ sent.bt = .tx ∧
    ∃ t, step { sent with pending := [.txDrain] } = .next t :=
  ⟨test_inv_sent, fun _ => ⟨[], by decide⟩, by decide, _, rfl⟩

theorem test_witness_ParametersNeverChange :
    ∃ t, step { State.reset with pending := [.reset] } = .next t := ⟨_, rfl⟩

theorem test_witness_RegisterMapReads :
    (∃ b, State.reset.encData[28]? = some b) ∧ (∃ b, State.reset.txBuf[35]? = some b) ∧
    (∃ b, State.reset.res.data[28]? = some b) ∧ ∃ b, State.reset.rxBuf[255]? = some b :=
  ⟨⟨0, by decide⟩, ⟨0, by decide⟩, ⟨0, by decide⟩, ⟨0, by decide⟩⟩

/-- The first and the last unmapped address of each range, with MAX_DATA 29 and RXBUF_LEN 256. -/
theorem test_witness_UnmappedAddressesInert :
    State.reset.params.maxData = 29 ∧ State.reset.params.rxbufLen = 256 ∧
    (∀ a ∈ [0x013#12, 0x017#12], 0x013 ≤ a.toNat ∧ a.toNat ≤ 0x017) ∧
    (∀ a ∈ [0x01E#12, 0x01F#12], 0x01E ≤ a.toNat ∧ a.toNat ≤ 0x01F) ∧
    (∀ a ∈ [0x027#12, 0x0FF#12], 0x027 ≤ a.toNat ∧ a.toNat ≤ 0x0FF) ∧
    (∀ a ∈ [0x11D#12, 0x1FF#12], 0x100 + 29 ≤ a.toNat ∧ a.toNat < 0x200) ∧
    (∀ a ∈ [0x224#12, 0x2FF#12], 0x200 + (7 + 29) ≤ a.toNat ∧ a.toNat < 0x300) ∧
    (∀ a ∈ [0x31D#12, 0x3FF#12], 0x300 + 29 ≤ a.toNat ∧ a.toNat < 0x400) ∧
    ∀ a ∈ [0x500#12, 0xFFF#12], 0x400 + 256 ≤ a.toNat := by
  refine ⟨rfl, rfl, ?_, ?_, ?_, ?_, ?_, ?_, ?_⟩ <;> simp

theorem test_witness_ReadOnlyRegistersIgnoreWrites :
    (0x200 ≤ (0x223#12).toNat ∧ (0x223#12).toNat < 0x200 + (7 + State.reset.params.maxData)) ∧
    (0x300 ≤ (0x31C#12).toNat ∧ (0x31C#12).toNat < 0x300 + State.reset.params.maxData) := by decide

theorem test_witness_WritableRegistersReadBack :
    0x01D#12 ∈ [0x00A#12, 0x00B#12, 0x01D#12] ∧ 0x01A#12 ∈ [0x00C#12, 0x018#12, 0x019#12, 0x01A#12] ∧
    0x100 ≤ (0x11C#12).toNat ∧ (0x11C#12).toNat < 0x100 + State.reset.params.maxData := by decide

theorem test_witness_ReceiveBufferHostAccess :
    255 < State.reset.params.rxbufLen ∧ listening.bt = .listen ∧ State.reset.bt ≠ .listen := by decide

theorem test_witness_IllegalCommandOnlyReports :
    16 ≤ (0x0010#16).toNat ∧ 6 ≤ (0x0006#16).toNat % 16 ∧ 6 ≤ (0x000F#16).toNat % 16 := by decide

theorem test_witness_BusyRules : waiting.bt = .wait ∧ sending.bt = .tx ∧ listening.bt = .listen ∧
    State.reset.bt = .idle := by decide

theorem test_witness_EncodedFrameLayout : 0 < ([0x32] : List Byte).length := by decide

theorem test_witness_EncodeBuildsFrame : (encIn 0x50 0x11 29 []).Inv ∧ (encIn 0x50 0x11 29 []).bt = .idle ∧
    (encIn 0x50 0x11 29 []).encDlen.toNat ≤ (encIn 0x50 0x11 29 []).params.maxData ∧ listening.Inv ∧
    listening.bt = .listen ∧ listening.encDlen.toNat ≤ listening.params.maxData :=
  ⟨test_inv_enc.1, by decide, by decide, test_inv_listening, by decide, by decide⟩

theorem test_witness_EncodeTooLongLeavesNoFrame :
    (encIn 0x50 0x11 30 []).params.maxData < (encIn 0x50 0x11 30 []).encDlen.toNat ∧ (encIn 0x50 0x11 30 []).Inv ∧
    (encIn 0x50 0x11 30 []).bt = .idle := ⟨by decide, test_inv_enc.2, by decide⟩

theorem test_witness_DecodeWindowIsBufferSlice :
    (loaded [0x10, 0x02, 0x50, 0x14, 0x64, 0x10, 0x03]).decOff.toNat + 6 <
      (loaded [0x10, 0x02, 0x50, 0x14, 0x64, 0x10, 0x03]).rxCnt.toNat := by decide

/-- DEC-9, DEC-11, DEC-14, DEC-16, DEC-1: a window for each clause of DecodeWindowOutcomes. -/
theorem test_witness_DecodeWindowOutcomes :
    ([0x10, 0x02, 0x50, 0x14, 0x64, 0x10] : List Byte).length < 7 ∧
    NoPairFrom 0x10 0x02 [0xFF, 0xFF, 0xFF, 0xFF, 0xFF, 0xFF, 0xFF] 0 ∧
    (FirstPairAt 0x10 0x02 [0xFF, 0xFF, 0xFF, 0xFF, 0xFF, 0x10, 0x02] 0 5 ∧
      NoPairFrom 0x10 0x03 [0xFF, 0xFF, 0xFF, 0xFF, 0xFF, 0x10, 0x02] 7) ∧
    (FirstPairAt 0x10 0x02 [0x10, 0x02, 0x10, 0x03, 0x00, 0x00, 0x00] 0 0 ∧
      FirstPairAt 0x10 0x03 [0x10, 0x02, 0x10, 0x03, 0x00, 0x00, 0x00] 2 2) ∧
    (FirstPairAt 0x10 0x02 [0x10, 0x02, 0x50, 0x11, 0x32, 0x93, 0x10, 0x03] 0 0 ∧
      FirstPairAt 0x10 0x03 [0x10, 0x02, 0x50, 0x11, 0x32, 0x93, 0x10, 0x03] 2 6) ∧ 3 ≤ 6 - (0 + 2) ∧
    (0 + 3 < 6 - (0 + 2) ∧ 6 - (0 + 2) ≤ 29 + 3) :=
  ⟨by decide, findPair_eq_none.mp (by decide),
    ⟨findPair_eq_some.mp (by decide), noPairFrom_drop.mpr (findPair_eq_none.mp (by decide))⟩,
    ⟨findPair_eq_some.mp (by decide), firstPairAt_drop.mpr ⟨by decide, findPair_eq_some.mp (by decide)⟩⟩,
    ⟨findPair_eq_some.mp (by decide), firstPairAt_drop.mpr ⟨by decide, findPair_eq_some.mp (by decide)⟩⟩,
    by decide, by decide⟩

theorem test_witness_DecodeWritesResults : (loaded [0x10, 0x02, 0x50, 0x14, 0x64, 0x10, 0x03]).Inv ∧
    ∃ r, r = decodeWindow (loaded [0x10, 0x02, 0x50, 0x14, 0x64, 0x10, 0x03]).decodeInput 0 29 :=
  ⟨test_inv_loaded.1, _, rfl⟩

theorem test_witness_TransparentFrameRoundTrips : ([0x32] : List Byte).length ≤ 1 ∧
    Transparent (payload 0 0x50 0x11 [0x32]) := ⟨by decide, test_transparent⟩

theorem test_witness_NonTransparentFrameNeverRoundTrips : ([0x10, 0x03] : List Byte).length ≤ 2 ∧
    FirstPairAt 0x10 0x03 (payload 0 0x50 0x11 [0x10, 0x03]) 0 2 := ⟨by decide, test_not_transparent⟩

theorem test_witness_FinalResultSurvivesMoreBytes :
    (decodeWindow [0x10, 0x02, 0x50, 0x14, 0x64, 0x10, 0x03] 0 29).code ≠ .incomplete := by decide

/-- CS-1: DATA bit 0 of ENC-1 flipped. -/
theorem test_witness_SingleBitFlipIsBadSum : Transparent (payload 0 0x50 0x11 [0x32]) ∧
    (2 ≤ 4 ∧ 4 < ([0x32] : List Byte).length + 5) ∧ (encodeFrame 0 0x50 0x11 [0x32])[4]? = some 0x32 ∧
    (decodeWindow ((encodeFrame 0 0x50 0x11 [0x32]).set 4 (0x32 ^^^ BitVec.twoPow 8 0)) 0 29).start = some 0 ∧
    (decodeWindow ((encodeFrame 0 0x50 0x11 [0x32]).set 4 (0x32 ^^^ BitVec.twoPow 8 0)) 0 29).stop = some 8 :=
  ⟨test_transparent, by decide, by decide, by decide, by decide⟩

/-- DEC-7: ENC-1's frame with two bytes after it. -/
theorem test_witness_DecodeReadsEncodedFrame :
    (loaded [0x10, 0x02, 0x50, 0x11, 0x32, 0x93, 0x10, 0x03, 0x10, 0x03]).Inv ∧
    Transparent (payload 0 0x50 0x11 [0x32]) ∧
    (loaded [0x10, 0x02, 0x50, 0x11, 0x32, 0x93, 0x10, 0x03, 0x10, 0x03]).decodeInput =
      encodeFrame 0 0x50 0x11 [0x32] ++ [0x10, 0x03] := ⟨test_inv_loaded.2, test_transparent, by decide⟩

theorem test_witness_TransmitOutcomes : State.reset.bt = .idle ∧ State.reset.txLen = 0 ∧ framed.bt = .idle ∧
    framed.txLen ≠ 0 ∧
    ({ framed with idleMs := 50, ifdElapsed := 50 }.quietMs.toNat ≤ 50 ∧ framed.ifdMs.toNat ≤ 50) ∧
    ¬ (framed.quietMs.toNat ≤ ({ framed with idleMs := 49 }).idleMs.toNat ∧
      framed.ifdMs.toNat ≤ framed.ifdElapsed.toNat) ∧
    { framed with busyWaitMs := 0 }.busyWaitMs = 0 ∧ framed.busyWaitMs ≠ 0 := by decide

theorem test_witness_ListenOutcomes : State.reset.bt = .idle ∧ State.reset.listenMs ≠ 0 ∧
    { State.reset with listenMs := 0 }.listenMs = 0 := by decide

/-- The three counters after one more TICK, at 49 and saturated. -/
theorem test_witness_TickOutcomes :
    { waiting with idleMs := 49, btTimer := 49 }.Inv ∧ (50#16).toNat = min ((49#16).toNat + 1) 0xFFFF ∧
    (0xFFFF#16).toNat = min ((0xFFFF#16).toNat + 1) 0xFFFF ∧ (waiting.quietMs ≤ 50 ∧ waiting.ifdMs ≤ 0xFFFF) ∧
    ¬ (waiting.quietMs ≤ 49 ∧ waiting.ifdMs ≤ 0xFFFF) ∧ { waiting with busyWaitMs := 49 }.busyWaitMs ≤ 49 ∧
    ¬ waiting.busyWaitMs ≤ 49 ∧ listening.listenMs ≤ 500 ∧ ¬ listening.listenMs ≤ 499 :=
  ⟨test_inv_waiting, by decide⟩

theorem test_witness_ReceiveOutcomes : sending.te = true ∧ (waiting.te = false ∧ waiting.bt ≠ .listen) ∧
    (listening.te = false ∧ listening.bt = .listen ∧ listening.rxCnt.toNat < listening.params.rxbufLen) ∧
    (full.te = false ∧ full.bt = .listen ∧ full.params.rxbufLen ≤ full.rxCnt.toNat) := by decide

theorem test_witness_TransportOutcomes : sending.Inv ∧ sent.Inv ∧ sending.bt = .tx ∧
    { sending with txIdx := 6 }.txIdx.toNat < sending.txLen.toNat ∧
    sending.txBuf[({ sending with txIdx := 6 }).txIdx.toNat]? = some 0x03 ∧
    sent.txIdx.toNat = sent.txLen.toNat ∧ ¬ (waiting.bt = .tx ∧ waiting.txIdx.toNat < waiting.txLen.toNat) :=
  ⟨test_inv_sending, test_inv_sent, by decide, by decide, by decide, by decide, by decide⟩

theorem test_witness_SequencerTransitions :
    ∃ t, runEvent .txDrain sent = .next t ∧ t.bt ≠ sent.bt := ⟨_, rfl, by decide⟩

theorem test_witness_BufferOwnership :
    (∃ t, runEvent (.hostWrite 0x000 0x0001) State.reset = .next t ∧ t.txLen ≠ State.reset.txLen) ∧
    ∃ t, runEvent (.rx 0x55) listening = .next t ∧ listening.bt = .listen ∧ t.rxCnt ≠ listening.rxCnt :=
  ⟨⟨_, rfl, by decide⟩, _, rfl, by decide, by decide⟩

/-- One event for each bit. -/
theorem test_witness_InterruptSources :
    (∃ t, runEvent .txDrain sent = .next t ∧ t.irqPend.getLsbD 0 = true ∧ sent.irqPend.getLsbD 0 = false) ∧
    (∃ t, runEvent (.hostWrite 0x000 0x0005) listening = .next t ∧ t.irqPend.getLsbD 1 = true ∧
      listening.irqPend.getLsbD 1 = false) ∧
    (∃ t, runEvent (.hostWrite 0x000 0x0006) State.reset = .next t ∧ t.irqPend.getLsbD 2 = true ∧
      State.reset.irqPend.getLsbD 2 = false) ∧
    ∃ t, runEvent (.rx 0x55) full = .next t ∧ t.irqPend.getLsbD 3 = true ∧ full.irqPend.getLsbD 3 = false :=
  ⟨⟨_, rfl, by decide, by decide⟩, ⟨_, rfl, by decide, by decide⟩, ⟨_, rfl, by decide, by decide⟩,
    _, rfl, by decide, by decide⟩

theorem test_witness_QuiescentBlockOnlyCounts : State.reset.bt = .idle ∧ isSequencerEvent (.rx 0x55) = true ∧
    ∃ t, runEvent (.rx 0x55) State.reset = .next t := ⟨by decide, by decide, _, rfl⟩

/-- Two states and two received bytes that differ in byte values only. -/
theorem test_witness_SequencerIgnoresByteValues :
    listening.withoutBytes = { listening with rxBuf := List.replicate 256 0xFF }.withoutBytes ∧
    isSequencerEvent .tick = true ∧ (∃ t, runEvent .tick listening = .next t) ∧
    (∃ t, runEvent (.rx 0x10) listening = .next t) ∧ ∃ t, exec .cancel listening = .next t :=
  ⟨rfl, rfl, ⟨_, rfl⟩, ⟨_, rfl⟩, _, rfl⟩

theorem test_witness_TransmissionSendsWholeFrame : sending.Inv ∧ sending.txIdx = 0 ∧
    ∃ t u, RunIn (fun x => x.bt = .tx) sending (List.replicate 7 .txAccept) t ∧
      runEvent .txDrain t = .next u ∧ u.bt ≠ .tx := by
  refine ⟨test_inv_sending, by decide, sent, _, ?_, rfl, by decide⟩
  iterate 7 refine RunIn.more (by decide) rfl ?_
  exact .done (by decide)

/-- A byte is received in WAIT; the next TICK starts the transmission. QUIET_MS is 1, which no write can set; the
statement covers every state. -/
theorem test_witness_QuietIntervalBeforeStart : { waiting with quietMs := 1 }.te = false ∧
    ∃ s' u, runEvent (.rx 0x55) { waiting with quietMs := 1 } = .next s' ∧ Run s' [] s' ∧ s'.bt ≠ .tx ∧
      runEvent .tick s' = .next u ∧ u.bt = .tx :=
  ⟨by decide, _, _, rfl, .done trivial, by decide, rfl, by decide⟩

theorem test_witness_InterFrameDelayBeforeStart : sent.txDrained = true ∧
    ∃ s' t u, runEvent .txDrain { sent with quietMs := 1, ifdMs := 1 } = .next s' ∧ Run s' [.tick] t ∧
      Event.reset ∉ [Event.tick] ∧ t.bt ≠ .tx ∧ runEvent (.hostWrite 0x000 0x0003) t = .next u ∧ u.bt = .tx :=
  ⟨by decide, _, _, _, rfl, .more trivial rfl (.done trivial), by decide, by decide, rfl, by decide⟩

theorem test_witness_WaitIsBounded : waiting.btTimer = 0 ∧ ticks [.tick] ≠ 0 ∧
    ∃ t, RunIn (fun x => x.bt = .wait ∧ x.busyWaitMs.toNat ≤ 2) { waiting with busyWaitMs := 2 } [.tick] t :=
  ⟨by decide, by decide, _, .more (by decide) rfl (.done (by decide))⟩

theorem test_witness_ListenIsBounded : listening.btTimer = 0 ∧ ticks [.tick] ≠ 0 ∧
    ∃ t, RunIn (fun x => x.bt = .listen ∧ x.listenMs.toNat ≤ 2) { listening with listenMs := 2 } [.tick] t :=
  ⟨by decide, by decide, _, .more (by decide) rfl (.done (by decide))⟩

end Sys2Proof.Tests
end

section
/-! SUPPORT. The fields of STATUS (R24), read off its layout, and the level of `irq` (R61), read bit by bit. -/

namespace Sys2Proof.Machine

/-- Address 0x002 reads STATUS (R71). -/
theorem hostValue_status (s : State) : hostValue s 0x002#12 = s.statusView := rfl

/-- STATUS is read-only: the host's write of it stores nothing (R24, R75). -/
theorem hostWrite_status (v : Word) (s : State) : hostWrite 0x002#12 v s = .next s := by
  rw [hostWrite_store (by decide)]
  rfl

/-- LINE_QUIET and IFD_MET compare the counters as unsigned numbers (R9, R24). -/
theorem State.lineQuiet_iff (s : State) : s.lineQuiet = true ↔ s.quietMs.toNat ≤ s.idleMs.toNat := by
  simp [State.lineQuiet, BitVec.le_def]

theorem State.ifdMet_iff (s : State) : s.ifdMet = true ↔ s.ifdMs.toNat ≤ s.ifdElapsed.toNat := by
  simp [State.ifdMet, BitVec.le_def]

/-- The lowest field of STATUS, BT_STATE [1:0]. -/
theorem State.statusView_mod_four (s : State) : s.statusView.toNat % 4 = s.bt.bits.toNat := by
  have hlow : s.statusView.setWidth 2 = s.bt.bits := BitVec.setWidth_append_eq_right
  rw [← hlow, BitVec.toNat_setWidth]

/-- The fields of STATUS above BT_STATE, one bit each: TE, LINE_QUIET, IFD_MET, RX_OVF, then the reserved bits,
which read 0 (R21, R24). -/
theorem State.statusView_getLsbD (s : State) (k : Nat) :
    s.statusView.getLsbD (k + 2) = [s.te, s.lineQuiet, s.ifdMet, s.rxOvf].getD k false := by
  simp only [State.statusView, BitVec.getLsbD_append, BitVec.getLsbD_ofBool]
  match k with
  | 0 | 1 | 2 | 3 => simp
  | k + 4 => simp

/-- The implemented bits of IRQ_PEND and IRQ_EN are [3:0] (R28, R29). -/
theorem irqMask_getLsbD (i : Nat) : irqMask.getLsbD i = decide (i < 4) := by
  have hmask : irqMask = BitVec.ofNat 16 (2 ^ 4 - 1) := rfl
  rw [hmask, BitVec.getLsbD_ofNat, Nat.testBit_two_pow_sub_one, ← Bool.decide_and]
  exact decide_eq_decide.2 (by omega)

/-- A word differs from 0 exactly when one of its bits is set. -/
theorem ne_zero_iff_exists_bit (w : Word) : w ≠ 0 ↔ ∃ i, w.getLsbD i = true := by
  simp [BitVec.zero_iff_eq_false]

/-- The `irq` level (R61): the mask leaves bits [3:0], and the result differs from 0 when one of them is set. -/
theorem State.irq_iff (s : State) :
    s.irq = true ↔ ∃ i < 4, s.irqPend.getLsbD i = true ∧ s.irqEn.getLsbD i = true := by
  unfold State.irq
  rw [decide_eq_true_iff, ne_zero_iff_exists_bit]
  refine exists_congr fun i => ?_
  rw [BitVec.getLsbD_and, BitVec.getLsbD_and, irqMask_getLsbD, Bool.and_eq_true, Bool.and_eq_true,
    decide_eq_true_iff, and_comm]

end Sys2Proof.Machine
end

section
/-! The obligations of 10_state: STATUS and `irq`. -/

namespace Sys2Proof.Proofs
open Sys2Proof.Machine

/-- Settles O22: 0x002 reads the live view, whose fields are read off its layout one by one. -/
theorem statusIsLiveView : Obligations.StatusIsLiveView := by
  unfold Obligations.StatusIsLiveView
  refine ⟨fun s => ?_, by decide⟩
  rw [hostValue_status]
  refine ⟨?btState, ?te, ?lineQuiet, ?ifdMet, ?rxOvf, ?reserved, ?ignored⟩
  case btState => rw [s.statusView_mod_four]; cases s.bt <;> rfl
  case te => exact s.statusView_getLsbD 0
  case lineQuiet => exact (Bool.eq_iff_iff.1 (s.statusView_getLsbD 1)).trans s.lineQuiet_iff
  case ifdMet => exact (Bool.eq_iff_iff.1 (s.statusView_getLsbD 2)).trans s.ifdMet_iff
  case rxOvf => exact s.statusView_getLsbD 3
  case reserved =>
    intro i hi
    obtain ⟨k, rfl⟩ := Nat.exists_eq_add_of_le' hi
    exact s.statusView_getLsbD (k + 4)
  case ignored => exact fun v => hostWrite_status v s

/-- Settles O23, from the bitwise reading of the level and the cleared registers of reset. -/
theorem irqIsLevelOfEnabledPending : Obligations.IrqIsLevelOfEnabledPending := by
  unfold Obligations.IrqIsLevelOfEnabledPending
  exact ⟨State.irq_iff, rfl⟩

end Sys2Proof.Proofs
end

section
/-! SUPPORT. The unmapped addresses of R71 and what the host port does there (R72). The map is read backwards: a
register that `regAt` answers stands at its own address and inside its window, so no address between the windows
names one. -/

namespace Sys2Proof.Machine

/-- An array register's index lies inside its array (R44, R45, R47, R57). -/
def Reg.InWindow (p : Params) : Reg → Prop
  | .encData i | .resData i => i < p.maxData
  | .txBuf i => i < 7 + p.maxData
  | .rxBuf i => i < p.rxbufLen
  | _ => True

/-- The addresses that R71 leaves between and after its registers and windows. -/
def Unmapped (p : Params) (a : Addr) : Prop :=
  (0x013 ≤ a.toNat ∧ a.toNat ≤ 0x017) ∨ (0x01E ≤ a.toNat ∧ a.toNat ≤ 0x01F) ∨
    (0x027 ≤ a.toNat ∧ a.toNat ≤ 0x0FF) ∨
    (0x100 + p.maxData ≤ a.toNat ∧ a.toNat < 0x200) ∨
    (0x200 + (7 + p.maxData) ≤ a.toNat ∧ a.toNat < 0x300) ∨
    (0x300 + p.maxData ≤ a.toNat ∧ a.toNat < 0x400) ∨
    0x400 + p.rxbufLen ≤ a.toNat

/-- The table of single registers answers no array register. -/
theorem singleReg_inWindow (p : Params) {a : Nat} {r : Reg} (h : singleReg a = some r) : r.InWindow p := by
  unfold singleReg at h
  split at h <;> cases h <;> trivial

/-- The map answers an array register only inside its window. -/
theorem regAt_inWindow {p : Params} {a : Addr} {r : Reg} (h : regAt p a = some r) : r.InWindow p := by
  unfold regAt at h
  dsimp only at h
  split at h
  · exact singleReg_inWindow p h
  · split_ifs at h <;>
      (obtain ⟨i, hi, rfl⟩ := Option.map_eq_some_iff.1 h; exact (windowIndex_some hi).1)

/-- With legal parameters no window reaches into the next, so no register's address is unmapped. -/
theorem not_unmapped_of_inWindow {p : Params} (hp : p.legal = true) {a : Addr} {r : Reg}
    (ha : a.toNat = regAddr r) (hr : r.InWindow p) : ¬ Unmapped p a := by
  obtain ⟨hmax, hrx, -⟩ := (legal_iff p).1 hp
  unfold Unmapped
  cases r <;> simp only [regAddr, Reg.InWindow] at ha hr <;> omega

/-- The map answers no register at an unmapped address (R71, R72). -/
theorem regAt_unmapped {p : Params} (hp : p.legal = true) {a : Addr} (h : Unmapped p a) : regAt p a = none :=
  Option.eq_none_iff_forall_ne_some.2 fun _ hr =>
    not_unmapped_of_inWindow hp (regAt_addr hr) (regAt_inWindow hr) h

/-- A host read where the map has no register returns 0 (R72). -/
theorem hostValue_of_regAt_none {s : State} {a : Addr} (h : regAt s.params a = none) : hostValue s a = 0 := by
  rw [hostValue, h]

/-- A host write where the map has no register is ignored (R72): it is not the CMD write, and no store happens. -/
theorem hostWrite_of_regAt_none {s : State} {a : Addr} (h : regAt s.params a = none) (v : Word) :
    hostWrite a v s = .next s := by
  have hcmd : a ≠ 0x000#12 := by rintro rfl; cases h
  rw [hostWrite_store hcmd, State.hostStore, h]

/-- A host read only records the value it returns (R73, R74; log 6). -/
theorem runEvent_hostRead (s : State) (a : Addr) :
    runEvent (.hostRead a) s = .next { s with reads := s.reads ++ [hostValue s a] } := rfl

end Sys2Proof.Machine
end

section
/-! The obligations of 20_memory: unmapped addresses, and host reads. -/

namespace Sys2Proof.Proofs
open Sys2Proof.Machine

/-- Settles O15: the map has no register at an unmapped address, so a read finds 0 and a write finds nothing. -/
theorem unmappedAddressesInert : Obligations.UnmappedAddressesInert := by
  unfold Obligations.UnmappedAddressesInert
  intro s a v ⟨⟨hlegal, _⟩, _⟩ hunmapped
  have hnone : regAt s.params a = none := regAt_unmapped hlegal hunmapped
  refine ⟨?read, ?write⟩
  case read => rw [runEvent_hostRead, hostValue_of_regAt_none hnone]
  case write => exact hostWrite_of_regAt_none hnone v

/-- Settles O16: the event of a host read is the recording of its value. -/
theorem hostReadsChangeNothing : Obligations.HostReadsChangeNothing := by
  unfold Obligations.HostReadsChangeNothing
  exact runEvent_hostRead

end Sys2Proof.Proofs
end

section
/-! SUPPORT. Which CMD values issue no instruction (R102), and the value of a status word (R23). -/

namespace Sys2Proof.Machine

/-- The operation codes of R101 end at 5. -/
theorem decodeCmd16_ok_toNat_lt {v : Word} {i : Instr} (h : decodeCmd16 v = .ok i) : v.toNat < 6 := by
  rcases decodeCmd16_ok h with ⟨rfl, -⟩ | ⟨rfl, -⟩ | ⟨rfl, -⟩ | ⟨rfl, -⟩ | ⟨rfl, -⟩ | ⟨rfl, -⟩ <;> decide

/-- A CMD value above the operation codes issues no instruction (R102). -/
theorem hostInstr_cmd_eq_none {v : Word} (h : 6 ≤ v.toNat) : hostInstr 0x000#12 v = none := by
  refine Option.eq_none_iff_forall_ne_some.2 fun i hi => ?_
  rcases hostInstr_some hi with ⟨-, hd⟩ | ⟨haddr, -⟩
  · exact absurd (decodeCmd16_ok_toNat_lt hd) (Nat.not_lt.2 h)
  · exact absurd haddr (by decide)

/-- The host's write of an illegal value to CMD is answered ILLEGAL_OP (R102). -/
theorem hostWrite_cmd_illegal {v : Word} (h : 6 ≤ v.toNat) (s : State) :
    hostWrite 0x000#12 v s = .next (s.refuseOp .illegalOp (opField v)) := by
  rw [hostWrite, hostInstr_cmd_eq_none h]
  rfl

/-- A status word as a number: CODE in bits [3:0], the second field above it (R23 to R27). -/
theorem statusWord_eq_ofNat (c : Code) (field : BitVec 4) :
    statusWord c field = BitVec.ofNat 16 (c.bits.toNat + 16 * field.toNat) := by
  have hcode : c.bits.toNat < 2 ^ 4 := c.bits.isLt
  have hfield : field.toNat < 2 ^ 4 := field.isLt
  have hupper : (0#8 ++ field).toNat = field.toNat := by rw [BitVec.toNat_append]; simp
  apply BitVec.eq_of_toNat_eq
  rw [statusWord, BitVec.toNat_append, ← Nat.shiftLeft_add_eq_or_of_lt hcode, hupper, Nat.shiftLeft_eq,
    BitVec.toNat_ofNat]
  omega

end Sys2Proof.Machine
end

section
/-! The obligation of 30_encoding: the illegal CMD values. -/

namespace Sys2Proof.Proofs
open Sys2Proof.Machine

/-- Settles O24: the value issues no instruction, so the write is the ILLEGAL_OP answer alone; its OP is
`v[3:0]`. -/
theorem illegalCommandOnlyReports : Obligations.IllegalCommandOnlyReports := by
  unfold Obligations.IllegalCommandOnlyReports
  intro s v hillegal
  have habove : 6 ≤ v.toNat := by omega
  have hstatus : statusWord .illegalOp (opField v) = BitVec.ofNat 16 (9 + 16 * (v.toNat % 16)) := by
    rw [statusWord_eq_ofNat, opField_toNat]
    rfl
  have hwrite : runEvent (.hostWrite 0x000#12 v) s = .next (s.refuseOp .illegalOp (opField v)) :=
    hostWrite_cmd_illegal habove s
  rw [hwrite, State.refuseOp, hstatus]
  rfl

end Sys2Proof.Proofs
end

section
/-! SUPPORT. The wire frame byte by byte (R142), the candidate payload as the bytes before its checksum byte and
that byte (R109, R151), and the checksum test as one equation of byte sums (R107, R152). -/

namespace Sys2Proof.Machine

/-- Behind header, destination and command stand the data, the checksum and the footer (R142). -/
theorem encodeFrame_getElem?_add_four (seed dest cmd : Byte) (data : List Byte) (i : Nat) :
    (encodeFrame seed dest cmd data)[4 + i]? =
      (data ++ [checksum seed dest cmd data, markByte, footerByte])[i]? := by
  rw [encodeFrame, List.append_assoc]
  exact List.getElem?_append_right (Nat.le_add_right 4 i) |>.trans (by simp)

/-- The data bytes of the wire frame (R142). -/
theorem encodeFrame_getElem?_data (seed dest cmd : Byte) {data : List Byte} {i : Nat} (hi : i < data.length) :
    (encodeFrame seed dest cmd data)[4 + i]? = data[i]? := by
  rw [encodeFrame_getElem?_add_four, List.getElem?_append_left hi]

/-- The three bytes after the data of the wire frame: checksum and footer (R142). -/
theorem encodeFrame_getElem?_tail (seed dest cmd : Byte) (data : List Byte) (i : Nat) :
    (encodeFrame seed dest cmd data)[4 + (data.length + i)]? =
      [checksum seed dest cmd data, markByte, footerByte][i]? := by
  rw [encodeFrame_getElem?_add_four, List.getElem?_append_right (Nat.le_add_right _ _),
    Nat.add_sub_cancel_left]

/-- Replacing a byte of the candidate payload leaves header and footer of the frame where they are. -/
theorem encodeFrame_set_payload (seed dest cmd : Byte) {data : List Byte} {j : Nat}
    (hj : j < data.length + 3) (b : Byte) :
    (encodeFrame seed dest cmd data).set (j + 2) b =
      [markByte, headerByte] ++ (payload seed dest cmd data).set j b ++ [markByte, footerByte] := by
  rw [encodeFrame_eq_payload]
  have hjp : j + 2 < ([markByte, headerByte] ++ payload seed dest cmd data).length := by simp; omega
  exact List.set_append_left _ _ hjp

/-- A byte of the frame between header and footer is one of the candidate payload. -/
theorem encodeFrame_getElem?_payload (seed dest cmd : Byte) {data : List Byte} {j : Nat}
    (hj : j < data.length + 3) :
    (encodeFrame seed dest cmd data)[j + 2]? = (payload seed dest cmd data)[j]? := by
  have hjp : j < (payload seed dest cmd data).length := by rwa [payload_length]
  rw [encodeFrame_eq_payload, List.append_assoc]
  exact List.getElem?_append_left hjp

/-- Bytes added modulo 256 are the sum of their values, cut to a byte. -/
theorem ofNat_sum_toNat (l : List Byte) : BitVec.ofNat 8 (l.map BitVec.toNat).sum = l.sum := by
  induction l with
  | nil => rfl
  | cons b l ih =>
    rw [List.map_cons, List.sum_cons, List.sum_cons, BitVec.ofNat_add, ih, BitVec.ofNat_toNat,
      BitVec.setWidth_eq]

/-- The checksum as a sum of bytes modulo 256 (R107). -/
theorem checksum_eq_sum (seed dest cmd : Byte) (data : List Byte) :
    checksum seed dest cmd data = seed + (dest :: cmd :: data).sum := by
  rw [checksum, Nat.add_assoc, Nat.add_assoc, ← ofNat_sum_toNat, BitVec.ofNat_add, BitVec.ofNat_toNat,
    BitVec.setWidth_eq]
  rfl

/-- The received checksum is the candidate payload's last byte (R151). -/
theorem payloadFields_rck (seed : Byte) (q : List Byte) (ck : Byte) :
    (payloadFields seed (q ++ [ck])).rck = ck := by
  simp [payloadFields]

/-- The recomputed checksum adds up every byte before the last (R152). -/
theorem payloadFields_calcSum (seed : Byte) {q : List Byte} (hq : 2 ≤ q.length) (ck : Byte) :
    (payloadFields seed (q ++ [ck])).calcSum = seed + q.sum := by
  match q with
  | dest :: cmd :: data => simp [payloadFields, checksum_eq_sum]

/-- The checksum test notices a change of any one byte: before the last it changes the recomputed sum, at the
last the received one (R156). -/
theorem calcSum_ne_rck_of_set (seed : Byte) {q : List Byte} (hq : 2 ≤ q.length) {j : Nat} {b b' : Byte}
    (hb : (q ++ [seed + q.sum])[j]? = some b) (hne : b' ≠ b) :
    (payloadFields seed ((q ++ [seed + q.sum]).set j b')).calcSum ≠
      (payloadFields seed ((q ++ [seed + q.sum]).set j b')).rck := by
  by_cases hj : j < q.length
  · have hbj : q[j] = b := by
      rwa [List.getElem?_append_left hj, List.getElem?_eq_getElem hj, Option.some.injEq] at hb
    rw [List.set_append_left _ _ hj, payloadFields_rck, payloadFields_calcSum seed (by simpa using hq),
      List.sum_set', dif_pos hj, hbj]
    intro hsum
    have hdiff : -b + b' = 0 := by simpa using hsum
    exact hne (neg_add_eq_zero.1 hdiff).symm
  · have hjlt : j < (q ++ [seed + q.sum]).length := (List.getElem?_eq_some_iff.1 hb).1
    have hj' : j = q.length := by simp at hjlt; omega
    subst hj'
    have hlast : b = seed + q.sum := by simpa using hb.symm
    rw [List.set_append_right _ _ le_rfl, Nat.sub_self, List.set_cons_zero, payloadFields_rck,
      payloadFields_calcSum seed hq, ← hlast]
    exact hne.symm

/-- The same for the candidate payload of a frame: its checksum byte is the sum of the others (R109). -/
theorem payload_set_calcSum_ne_rck (seed dest cmd : Byte) {data : List Byte} {j : Nat} {b b' : Byte}
    (hb : (payload seed dest cmd data)[j]? = some b) (hne : b' ≠ b) :
    (payloadFields seed ((payload seed dest cmd data).set j b')).calcSum ≠
      (payloadFields seed ((payload seed dest cmd data).set j b')).rck := by
  rw [payload, checksum_eq_sum] at hb ⊢
  exact calcSum_ne_rck_of_set seed (by simp) hb hne

/-- Flipping one bit of a byte changes the byte. -/
theorem xor_twoPow_ne {k : Nat} (hk : k < 8) (b : Byte) : b ^^^ BitVec.twoPow 8 k ≠ b := by
  intro h
  have hbit := congrArg (·.getLsbD k) h
  simp [hk] at hbit

end Sys2Proof.Machine
end

section
/-! SUPPORT. What DecodeWindow finds does not depend on the bytes after it (R149, R150), and a result that defines
a window's end comes from one closed candidate payload (R151). -/

namespace Sys2Proof.Machine

/-- The second byte of a pair lies inside the window. -/
theorem FirstPairAt.succ_lt_length {a b : Byte} {win : List Byte} {n k : Nat} (h : FirstPairAt a b win n k) :
    k + 1 < win.length := by
  obtain ⟨-, -, hsecond, -⟩ := h
  exact (List.getElem?_eq_some_iff.1 hsecond).1

/-- The first pair of a window is the first pair of every extension: all candidates before it lie inside. -/
theorem FirstPairAt.append {a b : Byte} {win : List Byte} {n k : Nat} (h : FirstPairAt a b win n k)
    (more : List Byte) : FirstPairAt a b (win ++ more) n k := by
  have hlen := h.succ_lt_length
  obtain ⟨hn, hfirst, hsecond, hleast⟩ := h
  refine ⟨hn, ?_, ?_, fun j hnj hjk => ?_⟩
  · rwa [List.getElem?_append_left (by omega)]
  · rwa [List.getElem?_append_left hlen]
  · rw [List.getElem?_append_left (by omega), List.getElem?_append_left (by omega)]
    exact hleast j hnj hjk

theorem findPair_succ_lt_length {a b : Byte} {l : List Byte} {k : Nat} (h : findPair a b l = some k) :
    k + 1 < l.length :=
  (findPair_eq_some.1 h).succ_lt_length

theorem findPair_append {a b : Byte} {l : List Byte} {k : Nat} (h : findPair a b l = some k)
    (more : List Byte) : findPair a b (l ++ more) = some k :=
  findPair_eq_some.2 ((findPair_eq_some.1 h).append more)

/-- DecodeWindow where header and footer are found (R149 to R151). -/
theorem decodeWindow_eq_closeFrame {win : List Byte} {h len : Nat} (seed : Byte) (maxd : Nat)
    (h7 : 7 ≤ win.length) (hhead : findPair markByte headerByte win = some h)
    (hfoot : findPair markByte footerByte (win.drop (h + 2)) = some len) :
    decodeWindow win seed maxd = closeFrame seed maxd h ((win.drop (h + 2)).take len) := by
  simp only [decodeWindow, hhead, hfoot, if_neg (Nat.not_lt.2 h7)]

/-- A closed candidate payload is reported with the indices of its header and of the byte past its footer. -/
theorem closeFrame_start_stop (seed : Byte) (maxd h : Nat) (p : List Byte) :
    (closeFrame seed maxd h p).start = some h ∧
      (closeFrame seed maxd h p).stop = some (h + p.length + 4) := by
  rcases closeFrame_cases seed maxd h p with
    ⟨-, he⟩ | ⟨-, -, he⟩ | ⟨-, -, -, he⟩ | ⟨-, -, -, he⟩ <;>
  · rw [he]
    exact ⟨rfl, congrArg some (by omega)⟩

/-- A result with a start and an end is the check of the bytes between header and footer (R151). -/
theorem decodeWindow_of_stop {win : List Byte} {seed : Byte} {maxd h n : Nat}
    (hstart : (decodeWindow win seed maxd).start = some h)
    (hstop : (decodeWindow win seed maxd).stop = some (h + n + 4)) :
    decodeWindow win seed maxd = closeFrame seed maxd h ((win.drop (h + 2)).take n) := by
  rcases decodeWindow_cases win seed maxd with
    ⟨-, he⟩ | ⟨-, -, he⟩ | ⟨h', -, -, -, he⟩ | ⟨h', len, -, -, hfoot, he⟩
  case inr.inr.inr =>
    obtain ⟨hs, ht⟩ := closeFrame_start_stop seed maxd h' ((win.drop (h' + 2)).take len)
    have hlen := findPair_succ_lt_length hfoot
    rw [he, hs, Option.some.injEq] at hstart
    rw [he, ht, Option.some.injEq, List.length_take_of_le (by omega)] at hstop
    obtain rfl : h' = h := hstart
    obtain rfl : len = n := by omega
    exact he
  all_goals rw [he] at hstop; cases hstop

/-- DecodeWindow of a framed candidate payload that it finds in place is the check of that payload. -/
theorem decodeWindow_framed_of_stop {p : List Byte} {seed : Byte} {maxd : Nat}
    (hstart : (decodeWindow ([markByte, headerByte] ++ p ++ [markByte, footerByte]) seed maxd).start = some 0)
    (hstop : (decodeWindow ([markByte, headerByte] ++ p ++ [markByte, footerByte]) seed maxd).stop =
      some (p.length + 4)) :
    decodeWindow ([markByte, headerByte] ++ p ++ [markByte, footerByte]) seed maxd =
      closeFrame seed maxd 0 p := by
  rw [← Nat.zero_add p.length] at hstop
  rw [decodeWindow_of_stop hstart hstop]
  simp

/-- A candidate payload of legal length whose checksums differ is BAD_SUM (R152). -/
theorem closeFrame_badSum {seed : Byte} {maxd : Nat} (h : Nat) {p : List Byte} (hmin : 3 ≤ p.length)
    (hmax : p.length ≤ maxd + 3) (hne : (payloadFields seed p).calcSum ≠ (payloadFields seed p).rck) :
    (closeFrame seed maxd h p).code = .checksumMismatch ∧ (closeFrame seed maxd h p).detail = .badSum := by
  rcases closeFrame_cases seed maxd h p with
    ⟨hshort, -⟩ | ⟨-, hlong, -⟩ | ⟨-, -, heq, -⟩ | ⟨-, -, -, he⟩
  · omega
  · omega
  · exact absurd heq hne
  · rw [he]
    exact ⟨rfl, rfl⟩

end Sys2Proof.Machine
end

section
/-! SUPPORT. ENCODE with ENC_DLEN above MAX_DATA, and TRANSMIT with no frame in TXBUF (R145, R191). -/

namespace Sys2Proof.Machine

/-- An accepted ENCODE with ENC_DLEN above MAX_DATA leaves no frame (R145). -/
theorem exec_encode_tooLong {s : State} (hlong : s.params.maxData < s.encDlen.toNat)
    (hbt : s.bt = .idle ∨ s.bt = .listen) :
    exec .encode s = .next { s with opStatus := 0x0011, txLen := 0, encStatus := 0x0004 } := by
  have hfree : ¬ (s.bt = .wait ∨ s.bt = .tx) := by rcases hbt with h | h <;> simp [h]
  have hperform : performEncode (s.acceptOp 0x1) = (s.acceptOp 0x1).failEncode := if_pos hlong
  simp only [exec_eq, if_neg hfree, hperform]
  rfl

/-- A TRANSMIT in IDLE with TXLEN = 0 completes with INVALID_PAYLOAD (R191, R204). -/
theorem exec_transmit_noFrame {s : State} (hbt : s.bt = .idle) (hte : s.te = false) (hlen : s.txLen = 0) :
    exec .transmit s = .next { s with
      opStatus := 0x0031, btStatus := 0x0004, irqPend := s.irqPend ||| 0x0001 } := by
  have hperform : performTransmit (s.acceptOp 0x3) = (s.acceptOp 0x3).completeTx .invalidPayload :=
    if_pos hlen
  have hidle : s = { s with bt := .idle, te := false } := by rw [← hbt, ← hte]
  simp only [exec_eq, if_pos hbt, hperform]
  rw [hidle]
  rfl

/-- TE is 0 outside TX (R60). -/
theorem State.Inv.te_eq_false {s : State} (h : s.Inv) (hbt : s.bt ≠ .tx) : s.te = false := by
  obtain ⟨-, -, -, hte, -⟩ := h
  rw [hte]
  exact decide_eq_false hbt

end Sys2Proof.Machine
end

section
/-! The obligations of 40_frame_codec: the wire frame, the ENCODE that leaves none, and the decoder's laws of
streaming and of single-bit flips. -/

namespace Sys2Proof.Proofs
open Sys2Proof.Machine

/-- Settles O36: header and footer stay the first ones, and the bytes between them are the same. -/
theorem finalResultSurvivesMoreBytes : Obligations.FinalResultSurvivesMoreBytes := by
  unfold Obligations.FinalResultSurvivesMoreBytes
  intro w more seed maxd hfinal
  rcases decodeWindow_cases w seed maxd with
    ⟨-, he⟩ | ⟨-, -, he⟩ | ⟨h, -, -, -, he⟩ | ⟨h, len, h7, hhead, hfoot, he⟩
  case inr.inr.inr =>
    have hh := findPair_succ_lt_length hhead
    have hl := findPair_succ_lt_length hfoot
    have hdrop : (w ++ more).drop (h + 2) = w.drop (h + 2) ++ more := List.drop_append_of_le_length (by omega)
    have h7' : 7 ≤ (w ++ more).length := by rw [List.length_append]; omega
    have hfoot' : findPair markByte footerByte ((w ++ more).drop (h + 2)) = some len := by
      rw [hdrop]
      exact findPair_append hfoot more
    rw [he, decodeWindow_eq_closeFrame seed maxd h7' (findPair_append hhead more) hfoot', hdrop,
      List.take_append_of_le_length (by omega)]
  all_goals rw [he] at hfinal; exact absurd rfl hfinal

/-- Settles O37: with the framing kept, DECODE checks the flipped candidate payload itself, and the checksum test
notices any one changed byte. The flip that is not noticed is vector CS-7. -/
theorem singleBitFlipIsBadSum : Obligations.SingleBitFlipIsBadSum := by
  unfold Obligations.SingleBitFlipIsBadSum
  refine ⟨?caught, ?missed⟩
  case caught =>
    intro seed dest cmd data maxd i k b hmax _ hi hi' hk hb hstart hstop
    obtain ⟨j, rfl⟩ := Nat.exists_eq_add_of_le' hi
    have hj : j < data.length + 3 := by omega
    rw [encodeFrame_getElem?_payload seed dest cmd hj] at hb
    have hlen : ((payload seed dest cmd data).set j (b ^^^ BitVec.twoPow 8 k)).length = data.length + 3 := by
      rw [List.length_set, payload_length]
    rw [encodeFrame_set_payload seed dest cmd hj] at hstart hstop ⊢
    rw [decodeWindow_framed_of_stop hstart (by rw [hstop, hlen])]
    exact closeFrame_badSum 0 (by omega) (by omega)
      (payload_set_calcSum_ne_rck seed dest cmd hb (xor_twoPow_ne hk b))
  case missed =>
    exact ⟨0, 0x50, 0x11, [0x61, 0x11, 0x03], 5, 0, 0x11, by decide, notTransparent_eq_false.1 (by decide),
      by decide, by decide, by decide, by decide, by decide⟩

/-- Settles O28: the first four bytes stand in the definition, the others are counted from the data's start. -/
theorem encodedFrameLayout : Obligations.EncodedFrameLayout := by
  unfold Obligations.EncodedFrameLayout
  intro seed dest cmd data
  refine ⟨encodeFrame_length seed dest cmd data, rfl, rfl, rfl, rfl,
    fun i hi => encodeFrame_getElem?_data seed dest cmd hi,
    ⟨_, encodeFrame_getElem?_tail seed dest cmd data 0, checksum_toNat seed dest cmd data⟩, ?mark, ?footer⟩
  case mark =>
    rw [show 5 + data.length = 4 + (data.length + 1) by omega]
    exact encodeFrame_getElem?_tail seed dest cmd data 1
  case footer =>
    rw [show 6 + data.length = 4 + (data.length + 2) by omega]
    exact encodeFrame_getElem?_tail seed dest cmd data 2

/-- Settles O30: the ENCODE leaves TXLEN = 0 and the sequencer in IDLE, where the TRANSMIT finds no frame. -/
theorem encodeTooLongLeavesNoFrame : Obligations.EncodeTooLongLeavesNoFrame := by
  unfold Obligations.EncodeTooLongLeavesNoFrame
  intro s hlong
  refine ⟨exec_encode_tooLong hlong, fun hinv hbt => ⟨_, exec_encode_tooLong hlong (.inl hbt), ?_⟩⟩
  have hte : s.te = false := hinv.te_eq_false (by rw [hbt]; decide)
  exact exec_transmit_noFrame hbt hte rfl

end Sys2Proof.Proofs
end

section
/-! SUPPORT. The quiet measurement (R201, R208) and the start of a transmission (R190 to R193): what each event
makes of IDLE_MS, and that an event enters TX only through EvalWait's start test. -/

namespace Sys2Proof.Machine

/-- EvalWait and EvalListen measure nothing. -/
@[simp] theorem State.evalWait_idleMs (s : State) : s.evalWait.idleMs = s.idleMs := by
  rcases evalWait_cases s with ⟨-, he⟩ | ⟨-, -, -, he⟩ | ⟨-, -, -, he⟩ | ⟨-, -, -, he⟩ <;> simp [he]

@[simp] theorem State.evalListen_idleMs (s : State) : s.evalListen.idleMs = s.idleMs := by
  rcases evalListen_cases s with ⟨-, he⟩ | ⟨-, -, -, he⟩ | ⟨-, -, -, he⟩ <;> simp [he]

@[simp] theorem performEncode_idleMs (s : State) : (performEncode s).idleMs = s.idleMs := by
  unfold performEncode
  split <;> rfl

@[simp] theorem performDecode_idleMs (s : State) : (performDecode s).idleMs = s.idleMs := rfl

@[simp] theorem performTransmit_idleMs (s : State) : (performTransmit s).idleMs = s.idleMs := by
  unfold performTransmit
  split <;> simp

@[simp] theorem performListen_idleMs (s : State) : (performListen s).idleMs = s.idleMs := by
  simp [performListen]

@[simp] theorem performCancel_idleMs (s : State) : (performCancel s).idleMs = s.idleMs := by
  unfold performCancel
  split <;> rfl

/-- No operation touches the quiet measurement. -/
theorem exec_idleMs {i : Instr} {s t : State} (h : exec i s = .next t) : t.idleMs = s.idleMs := by
  rw [exec_eq] at h
  cases h
  cases i with
  | encode | transmit | listen | cancel => dsimp only; split <;> simp
  | _ => simp

/-- No host write touches the quiet measurement: IDLE_MS is read-only (R37, R75). -/
theorem hostWrite_idleMs {a : Addr} {v : Word} {s t : State} (h : hostWrite a v s = .next t) :
    t.idleMs = s.idleMs := by
  rcases hostWrite_cases a v s with ⟨i, -, he⟩ | ⟨-, he⟩ <;> rw [he] at h
  · exact exec_idleMs h
  · cases h
    rcases hostPlainWrite_cases a v s with ⟨-, hp⟩ | ⟨-, -, hp⟩ | ⟨r, -, -, hp⟩ <;> rw [hp]
    · rfl
    · obtain ⟨-, -, -, -, -, -, -, -, -, -, -, hidle, -⟩ := writeReg_frame s v r
      exact hidle

/-- A TICK advances the quiet measurement by one at most (R201). -/
theorem tickEvent_idleMs_le (s : State) : s.tickEvent.idleMs.toNat ≤ s.idleMs.toNat + 1 := by
  rw [State.tickEvent, State.evalListen_idleMs, State.evalWait_idleMs, State.advanceCounters_idleMs]
  split
  · exact Nat.le_succ _
  · rw [satInc_toNat]; exact Nat.min_le_left _ _

/-- A received byte restarts the quiet measurement or is not seen (R198, R199). -/
theorem rxEvent_idleMs (s : State) (b : Byte) :
    (s.te = true ∧ s.rxEvent b = s) ∨ (s.te = false ∧ (s.rxEvent b).idleMs = 0) := by
  rcases rxEvent_cases s b with ⟨hte, he⟩ | ⟨hte, -, he⟩ | ⟨hte, -, -, he⟩ | ⟨hte, -, -, he⟩
  · exact .inl ⟨hte, he⟩
  all_goals exact .inr ⟨hte, by rw [he]⟩

/-- The end of a transmission restarts the quiet measurement (R195). -/
theorem txDrainEvent_idleMs (s : State) :
    (s.txDrained = false ∧ s.txDrainEvent = s) ∨ (s.txDrained = true ∧ s.txDrainEvent.idleMs = 0) := by
  unfold State.txDrainEvent
  cases s.txDrained
  · exact .inl ⟨rfl, rfl⟩
  · exact .inr ⟨rfl, rfl⟩

/-- The number of TICKs adds up along a run. -/
theorem ticks_cons (e : Event) (es : List Event) : ticks (e :: es) = ticks [e] + ticks es :=
  List.count_append (l₁ := [e])

theorem ticks_append (es fs : List Event) : ticks (es ++ fs) = ticks es + ticks fs := List.count_append

/-- IDLE_MS grows only by TICKs, by one each. -/
theorem runEvent_idleMs_le {e : Event} {s t : State} (h : runEvent e s = .next t) :
    t.idleMs.toNat ≤ s.idleMs.toNat + ticks [e] := by
  cases e with
  | hostWrite a v => exact le_of_eq_of_le (congrArg _ (hostWrite_idleMs h)) (Nat.le_add_right _ _)
  | tick => cases h; exact tickEvent_idleMs_le s
  | hostRead a => cases h; exact Nat.le_add_right _ _
  | reset => cases h; exact Nat.zero_le _
  | rx b =>
    cases h
    rcases rxEvent_idleMs s b with ⟨-, he⟩ | ⟨-, he⟩ <;> rw [he]
    · exact Nat.le_add_right _ _
    · exact Nat.zero_le _
  | txAccept =>
    cases h
    rcases txAcceptEvent_cases s with ⟨-, he⟩ | ⟨-, -, he⟩ <;> rw [he] <;> exact Nat.le_add_right _ _
  | txDrain =>
    cases h
    rcases txDrainEvent_idleMs s with ⟨-, he⟩ | ⟨-, he⟩ <;> rw [he]
    · exact Nat.le_add_right _ _
    · exact Nat.zero_le _

/-- Along a run IDLE_MS grows by the number of TICKs at most. -/
theorem run_idleMs_le {s t : State} {es : List Event} (h : Run s es t) :
    t.idleMs.toNat ≤ s.idleMs.toNat + ticks es := by
  induction h with
  | done _ => exact Nat.le_add_right _ _
  | @more s u t e es _ hstep _ ih =>
    have hfirst := runEvent_idleMs_le hstep
    rw [ticks_cons]
    omega

/-- EvalWait enters TX only with the line quiet and the inter-frame delay met (R192). -/
theorem evalWait_starts {s : State} (hs : s.bt ≠ .tx) (ht : s.evalWait.bt = .tx) :
    s.evalWait.lineQuiet = true ∧ s.evalWait.ifdMet = true := by
  rcases evalWait_cases s with ⟨-, he⟩ | ⟨-, hquiet, hifd, he⟩ | ⟨-, -, -, he⟩ | ⟨-, -, -, he⟩ <;>
    rw [he] at ht ⊢
  case inr.inl => exact ⟨decide_eq_true hquiet, decide_eq_true hifd⟩
  case inr.inr.inl => cases ht
  all_goals exact absurd ht hs

/-- EvalListen never enters TX (R197). -/
theorem evalListen_bt_ne_tx {s : State} (hs : s.bt ≠ .tx) : s.evalListen.bt ≠ .tx := by
  rcases evalListen_cases s with ⟨-, he⟩ | ⟨-, -, -, he⟩ | ⟨-, -, -, he⟩ <;> rw [he]
  · exact hs
  all_goals exact nofun

/-- A TICK enters TX only through EvalWait. -/
theorem tickEvent_starts {s : State} (hs : s.bt ≠ .tx) (ht : s.tickEvent.bt = .tx) :
    s.tickEvent.lineQuiet = true ∧ s.tickEvent.ifdMet = true := by
  rcases tickEvent_cases s with ⟨-, he⟩ | ⟨-, he⟩ | ⟨-, -, he⟩ <;> rw [he] at ht ⊢
  · exact evalWait_starts hs ht
  · exact absurd ht (evalListen_bt_ne_tx hs)
  · exact absurd ht hs

theorem performTransmit_starts {s : State} (ht : (performTransmit s).bt = .tx) :
    (performTransmit s).lineQuiet = true ∧ (performTransmit s).ifdMet = true := by
  unfold performTransmit at ht ⊢
  split at ht
  · cases ht
  · next hlen =>
    rw [if_neg hlen]
    exact evalWait_starts nofun ht

@[simp] theorem performEncode_bt (s : State) : (performEncode s).bt = s.bt := by
  unfold performEncode
  split <;> rfl

theorem performListen_bt_ne_tx (s : State) : (performListen s).bt ≠ .tx := evalListen_bt_ne_tx nofun

theorem performCancel_bt_ne_tx {s : State} (hs : s.bt ≠ .tx) : (performCancel s).bt ≠ .tx := by
  unfold performCancel
  split
  · exact nofun
  · exact nofun
  · exact hs
  · exact hs

/-- The only operation that enters TX is TRANSMIT, through EvalWait (R190, R191). -/
theorem exec_starts {i : Instr} {s t : State} (h : exec i s = .next t) (hs : s.bt ≠ .tx) (ht : t.bt = .tx) :
    t.lineQuiet = true ∧ t.ifdMet = true := by
  rw [exec_eq] at h
  cases h
  cases i with
  | transmit =>
    dsimp only at ht ⊢
    split at ht
    · next hidle => rw [if_pos hidle]; exact performTransmit_starts ht
    · exact absurd ht hs
  | encode =>
    dsimp only at ht
    split at ht
    · exact absurd ht hs
    · rw [performEncode_bt] at ht; exact absurd ht hs
  | listen =>
    dsimp only at ht
    split at ht
    · exact absurd ht (performListen_bt_ne_tx _)
    · exact absurd ht hs
  | cancel =>
    dsimp only at ht
    rw [if_neg hs] at ht
    exact absurd ht (performCancel_bt_ne_tx hs)
  | _ => exact absurd ht hs

theorem hostWrite_starts {a : Addr} {v : Word} {s t : State} (h : hostWrite a v s = .next t)
    (hs : s.bt ≠ .tx) (ht : t.bt = .tx) : t.lineQuiet = true ∧ t.ifdMet = true := by
  rcases hostWrite_cases a v s with ⟨i, -, he⟩ | ⟨-, he⟩ <;> rw [he] at h
  · exact exec_starts h hs ht
  · cases h
    rcases hostPlainWrite_cases a v s with ⟨-, hp⟩ | ⟨-, -, hp⟩ | ⟨r, -, -, hp⟩ <;> rw [hp] at ht
    · exact absurd ht hs
    · exact absurd ht hs
    · obtain ⟨-, hbt, -⟩ := writeReg_frame s v r
      exact absurd (hbt ▸ ht) hs

/-- An event that enters TX finds the line quiet and the inter-frame delay met, by the counters and intervals it
leaves behind (R190, R192). -/
theorem runEvent_starts {e : Event} {s t : State} (h : runEvent e s = .next t) (hs : s.bt ≠ .tx)
    (ht : t.bt = .tx) : t.lineQuiet = true ∧ t.ifdMet = true := by
  cases e with
  | hostWrite a v => exact hostWrite_starts h hs ht
  | tick => cases h; exact tickEvent_starts hs ht
  | hostRead a => cases h; exact absurd ht hs
  | reset => cases h; cases ht
  | rx b =>
    cases h
    rcases rxEvent_cases s b with ⟨-, he⟩ | ⟨-, -, he⟩ | ⟨-, -, -, he⟩ | ⟨-, -, -, he⟩ <;>
    · rw [he] at ht; exact absurd ht hs
  | txAccept =>
    cases h
    rcases txAcceptEvent_cases s with ⟨-, he⟩ | ⟨-, -, he⟩ <;>
    · rw [he] at ht; exact absurd ht hs
  | txDrain =>
    cases h
    rcases txDrainEvent_cases s with ⟨-, he⟩ | ⟨hbt, -, -⟩
    · rw [he] at ht; exact absurd ht hs
    · exact absurd hbt hs

/-- A seen byte, the end of a transmission and RESET leave IDLE_MS at 0 (R195, R198, R300). -/
theorem runEvent_restarts_idleMs {x : Event} {s t : State}
    (hx : (∃ b, x = .rx b ∧ s.te = false) ∨ (x = .txDrain ∧ s.txDrained = true) ∨ x = .reset)
    (h : runEvent x s = .next t) : t.idleMs = 0 := by
  rcases hx with ⟨b, rfl, hte⟩ | ⟨rfl, hdrained⟩ | rfl
  case inl =>
    cases h
    rcases rxEvent_idleMs s b with ⟨hte', -⟩ | ⟨-, he⟩
    · rw [hte] at hte'; cases hte'
    · exact he
  case inr.inl =>
    cases h
    rcases txDrainEvent_idleMs s with ⟨hno, -⟩ | ⟨-, he⟩
    · rw [hdrained] at hno; cases hno
    · exact he
  case inr.inr => cases h; rfl

end Sys2Proof.Machine
end

section
/-! The obligation of 41_bus_timing on the quiet interval. -/

namespace Sys2Proof.Proofs
open Sys2Proof.Machine

/-- Settles O51: IDLE_MS is 0 after the event `x` and grows by the TICKs at most, and the start test compares
QUIET_MS with it. -/
theorem quietIntervalBeforeStart : Obligations.QuietIntervalBeforeStart := by
  unfold Obligations.QuietIntervalBeforeStart
  intro x e s s' t u es hx hrestart hrun htx hstart hutx
  have hzero : s'.idleMs.toNat = 0 := by rw [runEvent_restarts_idleMs hx hrestart]; rfl
  obtain ⟨hquiet, -⟩ := runEvent_starts hstart htx hutx
  calc u.quietMs.toNat
      ≤ u.idleMs.toNat := u.lineQuiet_iff.1 hquiet
    _ ≤ t.idleMs.toNat + ticks [e] := runEvent_idleMs_le hstart
    _ ≤ s'.idleMs.toNat + ticks es + ticks [e] := Nat.add_le_add_right (run_idleMs_le hrun) _
    _ = ticks (es ++ [e]) := by rw [hzero, ticks_append, Nat.zero_add]

end Sys2Proof.Proofs
end

section
/-! SUPPORT. The verdict on an operation in each BT_STATE (R103, R207): what a refused one leaves, what an accepted
one answers, and what NOP and CANCEL do. -/

namespace Sys2Proof.Machine

/-- What an operation does after its acceptance leaves OP_STATUS as the acceptance wrote it (R103). -/
@[simp] theorem State.evalWait_opStatus (s : State) : s.evalWait.opStatus = s.opStatus := by
  rcases evalWait_cases s with ⟨-, he⟩ | ⟨-, -, -, he⟩ | ⟨-, -, -, he⟩ | ⟨-, -, -, he⟩ <;> simp [he]

@[simp] theorem State.evalListen_opStatus (s : State) : s.evalListen.opStatus = s.opStatus := by
  rcases evalListen_cases s with ⟨-, he⟩ | ⟨-, -, -, he⟩ | ⟨-, -, -, he⟩ <;> simp [he]

@[simp] theorem performEncode_opStatus (s : State) : (performEncode s).opStatus = s.opStatus := by
  unfold performEncode
  split <;> rfl

@[simp] theorem performDecode_opStatus (s : State) : (performDecode s).opStatus = s.opStatus := rfl

@[simp] theorem performTransmit_opStatus (s : State) : (performTransmit s).opStatus = s.opStatus := by
  unfold performTransmit
  split <;> simp

@[simp] theorem performListen_opStatus (s : State) : (performListen s).opStatus = s.opStatus := by
  simp [performListen]

@[simp] theorem performCancel_opStatus (s : State) : (performCancel s).opStatus = s.opStatus := by
  unfold performCancel
  split <;> rfl

/-- Each operation's verdict by BT_STATE (R207); NOP and DECODE are never refused. -/
theorem exec_nop (s : State) : exec .nop s = .next (s.acceptOp 0x0) := exec_eq .nop s

theorem exec_decode (s : State) : exec .decode s = .next (performDecode (s.acceptOp 0x2)) := exec_eq .decode s

theorem exec_encode_busy {s : State} (h : s.bt = .wait ∨ s.bt = .tx) :
    exec .encode s = .next (s.refuseOp .busy 0x1) := by simp only [exec_eq, if_pos h]

theorem exec_encode_accepted {s : State} (h : s.bt = .idle ∨ s.bt = .listen) :
    exec .encode s = .next (performEncode (s.acceptOp 0x1)) := by
  have hfree : ¬ (s.bt = .wait ∨ s.bt = .tx) := by rcases h with h | h <;> simp [h]
  simp only [exec_eq, if_neg hfree]

theorem exec_transmit_busy {s : State} (h : s.bt ≠ .idle) :
    exec .transmit s = .next (s.refuseOp .busy 0x3) := by simp only [exec_eq, if_neg h]

theorem exec_transmit_accepted {s : State} (h : s.bt = .idle) :
    exec .transmit s = .next (performTransmit (s.acceptOp 0x3)) := by simp only [exec_eq, if_pos h]

theorem exec_listen_busy {s : State} (h : s.bt ≠ .idle) :
    exec .listen s = .next (s.refuseOp .busy 0x4) := by simp only [exec_eq, if_neg h]

theorem exec_listen_accepted {s : State} (h : s.bt = .idle) :
    exec .listen s = .next (performListen (s.acceptOp 0x4)) := by simp only [exec_eq, if_pos h]

theorem exec_cancel_busy {s : State} (h : s.bt = .tx) :
    exec .cancel s = .next (s.refuseOp .busy 0x5) := by simp only [exec_eq, if_pos h]

theorem exec_cancel_accepted {s : State} (h : s.bt ≠ .tx) :
    exec .cancel s = .next (performCancel (s.acceptOp 0x5)) := by simp only [exec_eq, if_neg h]

/-- CANCEL after acceptance, by BT_STATE (R202). -/
theorem performCancel_idle {s : State} (h : s.bt = .idle) : performCancel s = s := by
  simp only [performCancel, h]

theorem performCancel_wait {s : State} (h : s.bt = .wait) : performCancel s = s.completeTx .cancelled := by
  simp only [performCancel, h]

theorem performCancel_listen {s : State} (h : s.bt = .listen) :
    performCancel s = s.completeListen .cancelled := by
  simp only [performCancel, h]

end Sys2Proof.Machine
end

section
/-! The obligations of 41_bus_timing on the operations: the busy rules, NOP and CANCEL. -/

namespace Sys2Proof.Proofs
open Sys2Proof.Machine

/-- Settles O25: each operation's verdict by BT_STATE; an accepted one keeps the answer the acceptance wrote. -/
theorem busyRules : Obligations.BusyRules := by
  unfold Obligations.BusyRules
  intro s
  refine ⟨exec_encode_busy, exec_transmit_busy, exec_listen_busy, exec_cancel_busy,
    ⟨_, exec_nop s, rfl⟩, ⟨_, exec_decode s, rfl⟩, ⟨_, exec_nop s, rfl⟩, ⟨_, exec_decode s, rfl⟩,
    fun h => ⟨_, exec_encode_accepted h, ?encode⟩, fun h => ⟨_, exec_transmit_accepted h, ?transmit⟩,
    fun h => ⟨_, exec_listen_accepted h, ?listen⟩, fun h => ⟨_, exec_cancel_accepted h, ?cancel⟩⟩
  case encode => exact performEncode_opStatus _
  case transmit => exact performTransmit_opStatus _
  case listen => exact performListen_opStatus _
  case cancel => exact performCancel_opStatus _

/-- Settles O26: NOP is its acceptance. -/
theorem nopWritesOpStatusOnly : Obligations.NopWritesOpStatusOnly := by
  unfold Obligations.NopWritesOpStatusOnly
  exact exec_nop

/-- Settles O41: refused in TX, else accepted and performed by BT_STATE. -/
theorem cancelOutcomes : Obligations.CancelOutcomes := by
  unfold Obligations.CancelOutcomes
  intro s
  refine ⟨fun h => ?idle, fun h => ?wait, fun h => ?listen, exec_cancel_busy⟩
  case idle =>
    rw [exec_cancel_accepted (by simp [h]), performCancel_idle (by simpa using h)]
    rfl
  case wait =>
    rw [exec_cancel_accepted (by simp [h]), performCancel_wait (by simpa using h)]
    rfl
  case listen =>
    rw [exec_cancel_accepted (by simp [h]), performCancel_listen (by simpa using h)]
    rfl

end Sys2Proof.Proofs
end

section
/-! SUPPORT. A TICK by BT_STATE (R201): the counters first, then the one evaluation of the state. -/

namespace Sys2Proof.Machine

/-- `sat16(v + 1)` by its value (R10). -/
theorem eq_satInc {v w : Word} (h : w.toNat = min (v.toNat + 1) 0xFFFF) : w = satInc v :=
  BitVec.eq_of_toNat_eq (h.trans (satInc_toNat v).symm)

/-- With TE = 1 no counter runs in TX (R201). -/
theorem advanceCounters_tx {s : State} (hte : s.te = true) (hbt : s.bt = .tx) : s.advanceCounters = s := by
  have huntimed : ¬ (s.bt = .wait ∨ s.bt = .listen) := by simp [hbt]
  rw [State.advanceCounters, if_pos hte, if_pos hte, if_neg huntimed]

/-- With TE = 0 the two line counters run; BT_TIMER stands in IDLE (R201). -/
theorem advanceCounters_idle {s : State} (hte : s.te = false) (hbt : s.bt = .idle) :
    s.advanceCounters = { s with idleMs := satInc s.idleMs, ifdElapsed := satInc s.ifdElapsed } := by
  simp [State.advanceCounters, hte, hbt]

/-- The state after one TICK of all three counters. -/
def State.counted (s : State) : State :=
  { s with idleMs := satInc s.idleMs, ifdElapsed := satInc s.ifdElapsed, btTimer := satInc s.btTimer }

/-- In WAIT and LISTEN all three counters run (R201). -/
theorem advanceCounters_timed {s : State} (hte : s.te = false) (hbt : s.bt = .wait ∨ s.bt = .listen) :
    s.advanceCounters = s.counted := by
  simp [State.advanceCounters, State.counted, hte, hbt]

/-- A TICK counts, then evaluates what BT_STATE calls for (R201). -/
theorem tickEvent_of_wait {s : State} (hte : s.te = false) (h : s.bt = .wait) :
    s.tickEvent = s.counted.evalWait := by
  rw [← advanceCounters_timed hte (.inl h)]
  rcases tickEvent_cases s with ⟨-, he⟩ | ⟨hl, -⟩ | ⟨hw, -, -⟩
  · exact he
  · rw [h] at hl; cases hl
  · exact absurd h hw

theorem tickEvent_of_listen {s : State} (hte : s.te = false) (h : s.bt = .listen) :
    s.tickEvent = s.counted.evalListen := by
  rw [← advanceCounters_timed hte (.inr h)]
  rcases tickEvent_cases s with ⟨hw, -⟩ | ⟨-, he⟩ | ⟨-, hl, -⟩
  · rw [h] at hw; cases hw
  · exact he
  · exact absurd h hl

theorem tickEvent_of_untimed {s : State} (hwait : s.bt ≠ .wait) (hlisten : s.bt ≠ .listen) :
    s.tickEvent = s.advanceCounters := by
  rcases tickEvent_cases s with ⟨hw, -⟩ | ⟨hl, -⟩ | ⟨-, -, he⟩
  · exact absurd hw hwait
  · exact absurd hl hlisten
  · exact he

/-- EvalWait in WAIT (R192): the start test, then the give-up test. -/
theorem evalWait_start {s : State} (h : s.bt = .wait) (hgate : s.quietMs ≤ s.idleMs ∧ s.ifdMs ≤ s.ifdElapsed) :
    s.evalWait = s.startTx := by
  simp [State.evalWait, State.lineQuiet, State.ifdMet, h, hgate]

theorem evalWait_giveUp {s : State} (h : s.bt = .wait)
    (hgate : ¬ (s.quietMs ≤ s.idleMs ∧ s.ifdMs ≤ s.ifdElapsed)) (htimer : s.busyWaitMs ≤ s.btTimer) :
    s.evalWait = s.completeTx .busBusy := by
  simp [State.evalWait, State.lineQuiet, State.ifdMet, ← Bool.decide_and, h, hgate, htimer]

theorem evalWait_wait {s : State} (hgate : ¬ (s.quietMs ≤ s.idleMs ∧ s.ifdMs ≤ s.ifdElapsed))
    (htimer : ¬ s.busyWaitMs ≤ s.btTimer) : s.evalWait = s := by
  simp [State.evalWait, State.lineQuiet, State.ifdMet, ← Bool.decide_and, hgate, htimer]

/-- EvalListen in LISTEN (R197): the window closes, or stays open. -/
theorem evalListen_close {s : State} (h : s.bt = .listen) (htimer : s.listenMs ≤ s.btTimer) :
    s.evalListen = s.completeListen (if s.rxCnt = 0 then .timeout else .ok) := if_pos ⟨h, htimer⟩

theorem evalListen_open {s : State} (htimer : ¬ s.listenMs ≤ s.btTimer) : s.evalListen = s :=
  if_neg fun ⟨_, hle⟩ => htimer hle

/-- CompleteListen by the code a window ends with (R197, R205). -/
theorem completeListen_windowEnd (s : State) :
    s.completeListen (if s.rxCnt = 0 then .timeout else .ok) = { s with
      bt := .idle, btStatus := if s.rxCnt = 0 then 0x0015 else 0x0011, irqPend := s.irqPend ||| 0x0002 } := by
  split <;> rfl

/-- CompleteTx while TE is 0 already (R204). -/
theorem completeTx_of_te {s : State} (hte : s.te = false) (c : Code) :
    s.completeTx c = { s with
      bt := .idle, btStatus := statusWord c (flagField false), irqPend := s.irqPend ||| irqTxDone } := by
  rw [State.completeTx, State.raiseIrq, ← hte]

/-- TE is 1 in TX (R60). -/
theorem State.Inv.te_eq_true {s : State} (h : s.Inv) (hbt : s.bt = .tx) : s.te = true := by
  obtain ⟨-, -, -, hte, -⟩ := h
  rw [hte]
  exact decide_eq_true hbt

end Sys2Proof.Machine
end

section
/-! The obligation of 41_bus_timing on the TICK. -/

namespace Sys2Proof.Proofs
open Sys2Proof.Machine

/-- Settles O42: the counters by BT_STATE and TE, then each branch of the state's one evaluation. -/
theorem tickOutcomes : Obligations.TickOutcomes := by
  unfold Obligations.TickOutcomes
  intro s idle ifd tmr hinv hidle hifd htmr
  obtain rfl : idle = satInc s.idleMs := eq_satInc hidle
  obtain rfl : ifd = satInc s.ifdElapsed := eq_satInc hifd
  obtain rfl : tmr = satInc s.btTimer := eq_satInc htmr
  have hte (h : s.bt ≠ .tx) : s.te = false := hinv.te_eq_false h
  refine ⟨fun h => ?tx, fun h => ?idle, fun h hgate => ?start, fun h hgate htimer => ?giveUp,
    fun h hgate htimer => ?wait, fun h htimer => ?close, fun h htimer => ?listen⟩ <;> rw [runEvent]
  case tx =>
    rw [tickEvent_of_untimed (by simp [h]) (by simp [h]), advanceCounters_tx (hinv.te_eq_true h) h]
  case idle =>
    rw [tickEvent_of_untimed (by simp [h]) (by simp [h]), advanceCounters_idle (hte (by simp [h])) h]
  case start =>
    rw [tickEvent_of_wait (hte (by simp [h])) h, evalWait_start (s := s.counted) h hgate]
    rfl
  case giveUp =>
    rw [tickEvent_of_wait (hte (by simp [h])) h, evalWait_giveUp (s := s.counted) h hgate htimer,
      completeTx_of_te (s := s.counted) (hte (by simp [h]))]
    rfl
  case wait =>
    rw [tickEvent_of_wait (hte (by simp [h])) h, evalWait_wait (s := s.counted) hgate htimer]
    rfl
  case close =>
    rw [tickEvent_of_listen (hte (by simp [h])) h, evalListen_close (s := s.counted) h htimer,
      completeListen_windowEnd]
    rfl
  case listen =>
    rw [tickEvent_of_listen (hte (by simp [h])) h, evalListen_open (s := s.counted) htimer]
    rfl

end Sys2Proof.Proofs
end

section
/-! SUPPORT. Noninterference of the byte values (R210): an operation ignores them when states that agree up to the
bytes sent and received still agree after it. Branches keep this when their test reads no byte. -/

namespace Sys2Proof.Machine

/-- States that agree without their bytes agree without their bytes after `f`. -/
def IgnoresBytes (f : State → State) : Prop :=
  ∀ s s' : State, s.withoutBytes = s'.withoutBytes → (f s).withoutBytes = (f s').withoutBytes

theorem ignoresBytes_id : IgnoresBytes fun s => s := fun _ _ h => h

/-- It is enough that leaving the bytes out beforehand makes no difference afterwards. -/
theorem ignoresBytes_of_erased {f : State → State}
    (h : ∀ s, (f s).withoutBytes = (f s.withoutBytes).withoutBytes) : IgnoresBytes f := by
  intro s s' heq
  rw [h s, heq, ← h s']

theorem IgnoresBytes.comp {f g : State → State} (hg : IgnoresBytes g) (hf : IgnoresBytes f) :
    IgnoresBytes fun s => g (f s) := fun s s' h => hg _ _ (hf s s' h)

/-- A branch on a test that reads no byte. -/
theorem IgnoresBytes.ite {p : State → Prop} [DecidablePred p] (hp : ∀ s, p s.withoutBytes ↔ p s)
    {f g : State → State} (hf : IgnoresBytes f) (hg : IgnoresBytes g) :
    IgnoresBytes fun s => if p s then f s else g s := by
  intro s s' heq
  have hiff : p s ↔ p s' := by rw [← hp s, heq, hp s']
  by_cases h : p s
  · simp only [if_pos h, if_pos (hiff.1 h)]
    exact hf s s' heq
  · simp only [if_neg h, if_neg (mt hiff.2 h)]
    exact hg s s' heq

theorem ignoresBytes_acceptOp (op : BitVec 4) : IgnoresBytes (·.acceptOp op) :=
  ignoresBytes_of_erased fun _ => rfl

theorem ignoresBytes_refuseOp (c : Code) (op : BitVec 4) : IgnoresBytes (·.refuseOp c op) :=
  ignoresBytes_of_erased fun _ => rfl

theorem ignoresBytes_completeTx (c : Code) : IgnoresBytes (·.completeTx c) :=
  ignoresBytes_of_erased fun _ => rfl

theorem ignoresBytes_completeListen (c : Code) : IgnoresBytes (·.completeListen c) :=
  ignoresBytes_of_erased fun _ => rfl

theorem ignoresBytes_startTx : IgnoresBytes State.startTx := ignoresBytes_of_erased fun _ => rfl

theorem ignoresBytes_advanceCounters : IgnoresBytes State.advanceCounters :=
  ignoresBytes_of_erased fun _ => rfl

theorem ignoresBytes_enterWait : IgnoresBytes State.enterWait := ignoresBytes_of_erased fun _ => rfl

theorem ignoresBytes_enterListen : IgnoresBytes State.enterListen := ignoresBytes_of_erased fun _ => rfl

/-- The start test and the give-up test read counters and intervals only (R192). -/
theorem ignoresBytes_evalWait : IgnoresBytes State.evalWait :=
  .ite (p := fun s => s.bt = .wait) (fun _ => Iff.rfl)
    (.ite (p := fun s => (s.lineQuiet && s.ifdMet) = true) (fun _ => Iff.rfl) ignoresBytes_startTx
      (.ite (p := fun s => s.busyWaitMs ≤ s.btTimer) (fun _ => Iff.rfl)
        (ignoresBytes_completeTx .busBusy) ignoresBytes_id))
    ignoresBytes_id

/-- The window's end depends on RXCNT, not on what was received (R197). -/
theorem ignoresBytes_evalListen : IgnoresBytes State.evalListen :=
  .ite (p := fun s => s.bt = .listen ∧ s.listenMs ≤ s.btTimer) (fun _ => Iff.rfl)
    (ignoresBytes_of_erased fun _ => rfl) ignoresBytes_id

theorem ignoresBytes_tickEvent : IgnoresBytes State.tickEvent :=
  ignoresBytes_evalListen.comp (ignoresBytes_evalWait.comp ignoresBytes_advanceCounters)

/-- A received byte is stored or dropped by RXCNT (R198, R200). -/
theorem ignoresBytes_rxEvent (b : Byte) : IgnoresBytes (·.rxEvent b) :=
  .ite (p := fun s => s.te = true) (fun _ => Iff.rfl) ignoresBytes_id
    (.ite (p := fun s => s.bt = .listen) (fun _ => Iff.rfl)
      (.ite (p := fun s => s.rxCnt.toNat < s.params.rxbufLen) (fun _ => Iff.rfl)
        (ignoresBytes_of_erased fun _ => rfl) (ignoresBytes_of_erased fun _ => rfl))
      (ignoresBytes_of_erased fun _ => rfl))

/-- Bytes of different values are received alike. -/
theorem rxEvent_withoutBytes (s : State) (b b' : Byte) :
    (s.rxEvent b).withoutBytes = (s.rxEvent b').withoutBytes := by
  unfold State.rxEvent State.receive
  split_ifs <;> rfl

theorem ignoresBytes_txAcceptEvent : IgnoresBytes State.txAcceptEvent :=
  .ite (p := fun s => s.txOffered = true) (fun _ => Iff.rfl) (ignoresBytes_of_erased fun _ => rfl)
    ignoresBytes_id

theorem ignoresBytes_txDrainEvent : IgnoresBytes State.txDrainEvent :=
  .ite (p := fun s => s.txDrained = true) (fun _ => Iff.rfl) (ignoresBytes_of_erased fun _ => rfl)
    ignoresBytes_id

theorem ignoresBytes_performTransmit : IgnoresBytes performTransmit :=
  .ite (p := fun s => s.txLen = 0) (fun _ => Iff.rfl) (ignoresBytes_completeTx .invalidPayload)
    (ignoresBytes_evalWait.comp ignoresBytes_enterWait)

theorem ignoresBytes_performListen : IgnoresBytes performListen :=
  ignoresBytes_evalListen.comp ignoresBytes_enterListen

theorem ignoresBytes_performCancel : IgnoresBytes performCancel := by
  refine ignoresBytes_of_erased fun s => ?_
  unfold performCancel
  cases hbt : s.bt <;> simp only [State.withoutBytes, hbt] <;> rfl

/-- Equal next states for an event or operation that ignores the bytes. -/
theorem IgnoresBytes.next {f : State → State} (hf : IgnoresBytes f)
    {run : State → Host.Outcome State Fault Refusal} (hrun : ∀ s, run s = .next (f s)) {s s' t t' : State}
    (heq : s.withoutBytes = s'.withoutBytes) (h : run s = .next t) (h' : run s' = .next t') :
    t.withoutBytes = t'.withoutBytes := by
  rw [hrun] at h h'
  cases h
  cases h'
  exact hf s s' heq

end Sys2Proof.Machine
end

section
/-! The obligation of 41_bus_timing on the values of the bytes. -/

namespace Sys2Proof.Proofs
open Sys2Proof.Machine

/-- Settles O49: every event and operation of the sequencer is built of parts that ignore the bytes. -/
theorem sequencerIgnoresByteValues : Obligations.SequencerIgnoresByteValues := by
  unfold Obligations.SequencerIgnoresByteValues
  intro s s' t t' heq
  refine ⟨?events, ?received, ?operations⟩
  case events =>
    intro e he h h'
    cases e with
    | tick => exact ignoresBytes_tickEvent.next (fun _ => rfl) heq h h'
    | rx b => exact (ignoresBytes_rxEvent b).next (fun _ => rfl) heq h h'
    | txAccept => exact ignoresBytes_txAcceptEvent.next (fun _ => rfl) heq h h'
    | txDrain => exact ignoresBytes_txDrainEvent.next (fun _ => rfl) heq h h'
    | hostRead a => cases he
    | hostWrite a v => cases he
    | reset => cases he
  case received =>
    intro b b' h h'
    cases h
    cases h'
    exact (ignoresBytes_rxEvent b s s' heq).trans (rxEvent_withoutBytes s' b b')
  case operations =>
    rintro i (rfl | rfl | rfl | rfl) h h'
    · exact (IgnoresBytes.ite (p := fun s => s.bt = .idle) (fun _ => Iff.rfl)
        (ignoresBytes_performTransmit.comp (ignoresBytes_acceptOp 0x3))
        (ignoresBytes_refuseOp .busy 0x3)).next (exec_eq .transmit) heq h h'
    · exact (IgnoresBytes.ite (p := fun s => s.bt = .idle) (fun _ => Iff.rfl)
        (ignoresBytes_performListen.comp (ignoresBytes_acceptOp 0x4))
        (ignoresBytes_refuseOp .busy 0x4)).next (exec_eq .listen) heq h h'
    · exact (IgnoresBytes.ite (p := fun s => s.bt = .tx) (fun _ => Iff.rfl)
        (ignoresBytes_refuseOp .busy 0x5)
        (ignoresBytes_performCancel.comp (ignoresBytes_acceptOp 0x5))).next (exec_eq .cancel) heq h h'
    · exact (ignoresBytes_acceptOp 0x0).next exec_nop heq h h'

end Sys2Proof.Proofs
end

section
/-! SUPPORT. What one event does, said once: the inversion of `runEvent` into its outcomes (R14, R73, R103, R190 to
R202, R300). The obligations about all events are case analyses of it. -/

namespace Sys2Proof.Machine

/-- The outcomes of an event: the event, the state it happens in and the state it leaves. A TICK's tests read the
counters it has just advanced (R201). -/
inductive Effect (s : State) : Event → State → Prop where
  /-- A host read (R74). -/
  | hostRead (a : Addr) : Effect s (.hostRead a) (s.hostRead a)
  /-- A host write at an unmapped address (R72). -/
  | unmapped {a : Addr} (v : Word) : regAt s.params a = none → Effect s (.hostWrite a v) s
  /-- A host write of a register other than CMD (R75). -/
  | stored {a : Addr} {r : Reg} (v : Word) : a ≠ 0x000#12 → regAt s.params a = some r →
      Effect s (.hostWrite a v) (writeReg s v r)
  /-- A CMD write answered BUSY or ILLEGAL_OP (R102, R207). -/
  | refused {c : Code} (v : Word) (op : BitVec 4) : c = .busy ∨ c = .illegalOp →
      Effect s (.hostWrite 0x000#12 v) (s.refuseOp c op)
  /-- NOP (R203). -/
  | nop : Effect s (.hostWrite 0x000#12 0x0000) (s.acceptOp 0x0)
  /-- An accepted ENCODE: no frame, or one frame (R143, R145). -/
  | encodeFailed : s.bt = .idle ∨ s.bt = .listen → s.params.maxData < s.encDlen.toNat →
      Effect s (.hostWrite 0x000#12 0x0001) (s.acceptOp 0x1).failEncode
  | encodeBuilt : s.bt = .idle ∨ s.bt = .listen → s.encDlen.toNat ≤ s.params.maxData →
      Effect s (.hostWrite 0x000#12 0x0001) (s.acceptOp 0x1).buildFrame
  /-- DECODE (R146). -/
  | decode : Effect s (.hostWrite 0x000#12 0x0002) (performDecode (s.acceptOp 0x2))
  /-- TRANSMIT with no frame (R191). -/
  | transmitNoFrame : s.bt = .idle → s.txLen = 0 →
      Effect s (.hostWrite 0x000#12 0x0003) ((s.acceptOp 0x3).completeTx .invalidPayload)
  /-- TRANSMIT that starts in its own event (R192). -/
  | transmitStart : s.bt = .idle → s.txLen ≠ 0 → s.quietMs ≤ s.idleMs → s.ifdMs ≤ s.ifdElapsed →
      Effect s (.hostWrite 0x000#12 0x0003) (s.acceptOp 0x3).enterWait.startTx
  /-- TRANSMIT that may not wait (R192). -/
  | transmitBusBusy : s.bt = .idle → s.txLen ≠ 0 → ¬ (s.quietMs ≤ s.idleMs ∧ s.ifdMs ≤ s.ifdElapsed) →
      s.busyWaitMs = 0 → Effect s (.hostWrite 0x000#12 0x0003) ((s.acceptOp 0x3).enterWait.completeTx .busBusy)
  /-- TRANSMIT that waits (R191). -/
  | transmitWait : s.bt = .idle → s.txLen ≠ 0 → ¬ (s.quietMs ≤ s.idleMs ∧ s.ifdMs ≤ s.ifdElapsed) →
      s.busyWaitMs ≠ 0 → Effect s (.hostWrite 0x000#12 0x0003) (s.acceptOp 0x3).enterWait
  /-- LISTEN that opens a window (R196). -/
  | listenOpen : s.bt = .idle → s.listenMs ≠ 0 →
      Effect s (.hostWrite 0x000#12 0x0004) (s.acceptOp 0x4).enterListen
  /-- LISTEN with LISTEN_MS = 0 (R197). -/
  | listenEmpty : s.bt = .idle → s.listenMs = 0 →
      Effect s (.hostWrite 0x000#12 0x0004) ((s.acceptOp 0x4).enterListen.completeListen .timeout)
  /-- CANCEL in IDLE, WAIT and LISTEN (R202). -/
  | cancelIdle : s.bt = .idle → Effect s (.hostWrite 0x000#12 0x0005) (s.acceptOp 0x5)
  | cancelWait : s.bt = .wait → Effect s (.hostWrite 0x000#12 0x0005) ((s.acceptOp 0x5).completeTx .cancelled)
  | cancelListen : s.bt = .listen →
      Effect s (.hostWrite 0x000#12 0x0005) ((s.acceptOp 0x5).completeListen .cancelled)
  /-- A TICK that only counts, outside WAIT and LISTEN (R201). -/
  | tickUntimed : s.bt ≠ .wait → s.bt ≠ .listen → Effect s .tick s.advanceCounters
  /-- A TICK in WAIT: start, give-up, or neither (R192). -/
  | tickStart : s.bt = .wait → s.quietMs ≤ s.advanceCounters.idleMs → s.ifdMs ≤ s.advanceCounters.ifdElapsed →
      Effect s .tick s.advanceCounters.startTx
  | tickBusBusy : s.bt = .wait → s.busyWaitMs ≤ s.advanceCounters.btTimer →
      Effect s .tick (s.advanceCounters.completeTx .busBusy)
  | tickWait : s.bt = .wait → ¬ s.busyWaitMs ≤ s.advanceCounters.btTimer → Effect s .tick s.advanceCounters
  /-- A TICK in LISTEN: the window's end, or not (R197). -/
  | tickClose : s.bt = .listen → s.listenMs ≤ s.advanceCounters.btTimer →
      Effect s .tick (s.advanceCounters.completeListen (if s.rxCnt = 0 then .timeout else .ok))
  | tickListen : s.bt = .listen → ¬ s.listenMs ≤ s.advanceCounters.btTimer → Effect s .tick s.advanceCounters
  /-- A received byte: not seen, outside a window, stored, or dropped (R198 to R200). -/
  | rxUnseen (b : Byte) : s.te = true → Effect s (.rx b) s
  | rxOutside (b : Byte) : s.te = false → s.bt ≠ .listen → Effect s (.rx b) { s with idleMs := 0 }
  | rxStored (b : Byte) : s.te = false → s.bt = .listen → s.rxCnt.toNat < s.params.rxbufLen →
      Effect s (.rx b) { s with
        idleMs := 0, rxBuf := s.rxBuf.set s.rxCnt.toNat b, rxCnt := s.rxCnt + 1 }
  | rxDropped (b : Byte) : s.te = false → s.bt = .listen → s.params.rxbufLen ≤ s.rxCnt.toNat →
      Effect s (.rx b) { s with idleMs := 0, rxOvf := true, irqPend := s.irqPend ||| irqRxOvf }
  /-- TXACCEPT: not enabled, or one byte leaves (R194). -/
  | acceptNone : s.txOffered = false → Effect s .txAccept s
  | accept : s.bt = .tx → s.txIdx.toNat < s.txLen.toNat → Effect s .txAccept { s with
      wire := s.wire ++ [s.txBuf.getD s.txIdx.toNat 0], txIdx := s.txIdx + 1 }
  /-- TXDRAIN: not enabled, or the transmission ends (R195). -/
  | drainNone : s.txDrained = false → Effect s .txDrain s
  | drain : s.bt = .tx → s.txIdx.toNat = s.txLen.toNat → Effect s .txDrain { s with
      te := false, idleMs := 0, ifdElapsed := 0, bt := .idle,
      btStatus := statusWord .ok (flagField false), irqPend := s.irqPend ||| irqTxDone }
  /-- RESET (R300). -/
  | reset : Effect s .reset s.resetBlock

/-- Every event answers a next state: no instruction and no event faults (R260). -/
theorem runEvent_next (e : Event) (s : State) : ∃ t, runEvent e s = .next t := by
  cases e with
  | hostWrite a v =>
    rcases hostWrite_cases a v s with ⟨i, -, he⟩ | ⟨-, he⟩
    · exact ⟨_, he.trans (exec_eq i s)⟩
    · exact ⟨_, he⟩
  | _ => exact ⟨_, rfl⟩

/-- ENCODE is accepted in the two states where no transmission waits or runs (R207). -/
theorem idle_or_listen_of_not_busy {s : State} (h : ¬ (s.bt = .wait ∨ s.bt = .tx)) :
    s.bt = .idle ∨ s.bt = .listen := by
  cases hbt : s.bt with
  | idle => exact .inl rfl
  | listen => exact .inr rfl
  | wait => exact absurd (.inl hbt) h
  | tx => exact absurd (.inr hbt) h

/-- An accepted ENCODE builds a frame exactly when ENC_DLEN is at most MAX_DATA (R143, R145). -/
theorem effect_performEncode {s : State} (hbt : s.bt = .idle ∨ s.bt = .listen) :
    Effect s (.hostWrite 0x000#12 0x0001) (performEncode (s.acceptOp 0x1)) := by
  unfold performEncode
  split
  · next hlong => exact .encodeFailed hbt hlong
  · next hfits => exact .encodeBuilt hbt (Nat.not_lt.1 hfits)

/-- An accepted TRANSMIT ends at once, starts, or waits (R191, R192). -/
theorem effect_performTransmit {s : State} (hbt : s.bt = .idle) :
    Effect s (.hostWrite 0x000#12 0x0003) (performTransmit (s.acceptOp 0x3)) := by
  unfold performTransmit
  split
  · next hlen => exact .transmitNoFrame hbt hlen
  · next hlen =>
    rcases evalWait_cases (s.acceptOp 0x3).enterWait with
      ⟨hw, -⟩ | ⟨-, hquiet, hifd, he⟩ | ⟨-, hgate, htimer, he⟩ | ⟨-, hgate, htimer, he⟩
    · exact absurd rfl hw
    · rw [he]; exact .transmitStart hbt hlen hquiet hifd
    · rw [he]; exact .transmitBusBusy hbt hlen hgate (BitVec.le_zero_iff.1 htimer)
    · rw [he]; exact .transmitWait hbt hlen hgate fun h0 => htimer (BitVec.le_zero_iff.2 h0)

/-- An accepted LISTEN opens a window, or with LISTEN_MS = 0 ends it at once (R196, R197). -/
theorem effect_performListen {s : State} (hbt : s.bt = .idle) :
    Effect s (.hostWrite 0x000#12 0x0004) (performListen (s.acceptOp 0x4)) := by
  unfold performListen
  rcases evalListen_cases (s.acceptOp 0x4).enterListen with ⟨hopen, he⟩ | ⟨-, -, hcnt, -⟩ | ⟨-, htimer, -, he⟩
  · rw [he]; exact .listenOpen hbt fun h0 => hopen ⟨rfl, BitVec.le_zero_iff.2 h0⟩
  · exact absurd rfl hcnt
  · rw [he]; exact .listenEmpty hbt (BitVec.le_zero_iff.1 htimer)

/-- An accepted CANCEL, by BT_STATE (R202). -/
theorem effect_performCancel {s : State} (hbt : s.bt ≠ .tx) :
    Effect s (.hostWrite 0x000#12 0x0005) (performCancel (s.acceptOp 0x5)) := by
  cases h : s.bt with
  | idle => rw [performCancel_idle (s := s.acceptOp 0x5) h]; exact .cancelIdle h
  | wait => rw [performCancel_wait (s := s.acceptOp 0x5) h]; exact .cancelWait h
  | listen => rw [performCancel_listen (s := s.acceptOp 0x5) h]; exact .cancelListen h
  | tx => exact absurd h hbt

/-- The host's write of CMD: one of the six operations of R101, refused or performed, or ILLEGAL_OP. -/
theorem effect_hostWrite_cmd {v : Word} {s t : State} (h : hostWrite 0x000#12 v s = .next t) :
    Effect s (.hostWrite 0x000#12 v) t := by
  rcases hostWrite_cases 0x000#12 v s with ⟨i, hi, he⟩ | ⟨-, he⟩ <;> rw [he] at h
  · obtain ⟨-, hd⟩ | ⟨haddr, -⟩ := hostInstr_some hi
    · rw [exec_eq] at h
      cases h
      rcases decodeCmd16_ok hd with ⟨rfl, rfl⟩ | ⟨rfl, rfl⟩ | ⟨rfl, rfl⟩ | ⟨rfl, rfl⟩ | ⟨rfl, rfl⟩ | ⟨rfl, rfl⟩ <;>
        dsimp only
      · exact .nop
      · split
        · exact .refused _ _ (.inl rfl)
        · next hbt => exact effect_performEncode (idle_or_listen_of_not_busy hbt)
      · exact .decode
      · split
        · next hbt => exact effect_performTransmit hbt
        · exact .refused _ _ (.inl rfl)
      · split
        · next hbt => exact effect_performListen hbt
        · exact .refused _ _ (.inl rfl)
      · split
        · exact .refused _ _ (.inl rfl)
        · next hbt => exact effect_performCancel hbt
    · exact absurd haddr (by decide)
  · cases h
    exact .refused _ _ (.inr rfl)

/-- A TICK counts, then evaluates what BT_STATE calls for (R201). -/
theorem effect_tickEvent (s : State) : Effect s .tick s.tickEvent := by
  rcases tickEvent_cases s with ⟨hbt, he⟩ | ⟨hbt, he⟩ | ⟨hw, hl, he⟩ <;> rw [he]
  · rcases evalWait_cases s.advanceCounters with
      ⟨hw, -⟩ | ⟨-, hquiet, hifd, he⟩ | ⟨-, -, htimer, he⟩ | ⟨-, -, htimer, he⟩
    · exact absurd hbt hw
    · rw [he]; exact .tickStart hbt hquiet hifd
    · rw [he]; exact .tickBusBusy hbt htimer
    · rw [he]; exact .tickWait hbt htimer
  · by_cases htimer : s.listenMs ≤ s.advanceCounters.btTimer
    · rw [evalListen_close (s := s.advanceCounters) hbt htimer]; exact .tickClose hbt htimer
    · rw [evalListen_open (s := s.advanceCounters) htimer]; exact .tickListen hbt htimer
  · exact .tickUntimed hw hl

/-- The inversion of an event. -/
theorem runEvent_effect {e : Event} {s t : State} (h : runEvent e s = .next t) : Effect s e t := by
  cases e with
  | hostRead a => cases h; exact .hostRead a
  | hostWrite a v =>
    by_cases ha : a = 0x000#12
    · subst ha; exact effect_hostWrite_cmd h
    · rw [runEvent, hostWrite_store ha, State.hostStore] at h
      cases h
      split
      · next hr => exact .unmapped v hr
      · next r hr => exact .stored v ha hr
  | tick => cases h; exact effect_tickEvent s
  | rx b =>
    cases h
    rcases rxEvent_cases s b with ⟨hte, he⟩ | ⟨hte, hbt, he⟩ | ⟨hte, hbt, hcnt, he⟩ | ⟨hte, hbt, hcnt, he⟩ <;>
      rw [he]
    · exact .rxUnseen b hte
    · exact .rxOutside b hte hbt
    · exact .rxStored b hte hbt hcnt
    · exact .rxDropped b hte hbt hcnt
  | txAccept =>
    cases h
    rcases txAcceptEvent_cases s with ⟨hno, he⟩ | ⟨hbt, hidx, he⟩ <;> rw [he]
    · exact .acceptNone hno
    · exact .accept hbt hidx
  | txDrain =>
    cases h
    rcases txDrainEvent_cases s with ⟨hno, he⟩ | ⟨hbt, hidx, he⟩ <;> rw [he]
    · exact .drainNone hno
    · exact .drain hbt hidx
  | reset => cases h; exact .reset

end Sys2Proof.Machine
end

section
/-! SUPPORT. What `Effect` says of the interrupt bits (R263), the buffers (R80), the inter-frame measurement (R209)
and BT_TIMER (R212): one lemma per concern, each a case analysis. -/

namespace Sys2Proof.Machine

/-- A host write of a register sets no bit of IRQ_PEND (R28). -/
theorem writeReg_irqPend {s : State} {v : Word} {r : Reg} {i : Nat}
    (h : (writeReg s v r).irqPend.getLsbD i = true) : s.irqPend.getLsbD i = true := by
  cases r with
  | irqPend =>
    rw [show (writeReg s v .irqPend).irqPend = s.irqPend &&& ~~~v from rfl, BitVec.getLsbD_and,
      Bool.and_eq_true] at h
    exact h.1
  | rxCnt | rxBuf i => dsimp only [writeReg] at h; split at h <;> exact h
  | _ => exact h

/-- In LISTEN the host port leaves the receive buffer alone (R47, R48). -/
theorem writeReg_of_listen {s : State} (hbt : s.bt = .listen) (v : Word) (r : Reg) :
    (writeReg s v r).rxBuf = s.rxBuf ∧ (writeReg s v r).rxCnt = s.rxCnt := by
  cases r with
  | rxCnt | rxBuf i => simp only [writeReg, if_pos hbt, and_self]
  | _ => exact ⟨rfl, rfl⟩

/-- A bit that was 0 and is 1 after bit `k` was set is bit `k`. -/
theorem eq_of_getLsbD_or_twoPow {w : Word} {k i : Nat} (h : (w ||| BitVec.twoPow 16 k).getLsbD i = true)
    (hw : w.getLsbD i = false) : i = k := by
  simp only [BitVec.getLsbD_or, hw, Bool.false_or, BitVec.getLsbD_twoPow, Bool.and_eq_true,
    decide_eq_true_iff] at h
  exact h.2.symm

/-- The rows of R263: which event sets bit `i` of IRQ_PEND, and what it leaves behind. -/
def IrqSource (e : Event) (s t : State) (i : Nat) : Prop :=
  (i = 0 ∧ t.bt = .idle ∧ (t.btStatus = 0x0001 ∨ t.btStatus = 0x0004 ∨ t.btStatus = 0x0006 ∨
      t.btStatus = 0x0007) ∧
    (e = .hostWrite 0x000#12 0x0003 ∨ e = .hostWrite 0x000#12 0x0005 ∨ e = .tick ∨ e = .txDrain)) ∨
  (i = 1 ∧ t.bt = .idle ∧ (t.btStatus = 0x0011 ∨ t.btStatus = 0x0015 ∨ t.btStatus = 0x0016) ∧
    (e = .hostWrite 0x000#12 0x0004 ∨ e = .hostWrite 0x000#12 0x0005 ∨ e = .tick)) ∨
  (i = 2 ∧ (t.opStatus.toNat % 16 = 8 ∨ t.opStatus.toNat % 16 = 9) ∧ ∃ v, e = .hostWrite 0x000#12 v) ∨
  (i = 3 ∧ s.bt = .listen ∧ s.params.rxbufLen ≤ s.rxCnt.toNat ∧ ∃ b, e = .rx b)

/-- CompleteTx in an event that may end a TRANSMIT is the source of TXDONE (R204). -/
theorem irqSource_txDone {e : Event} {s t : State} {c : Code}
    (hc : c = .ok ∨ c = .invalidPayload ∨ c = .cancelled ∨ c = .busBusy) (hbt : t.bt = .idle)
    (hstatus : t.btStatus = statusWord c (flagField false))
    (he : e = .hostWrite 0x000#12 0x0003 ∨ e = .hostWrite 0x000#12 0x0005 ∨ e = .tick ∨ e = .txDrain) :
    IrqSource e s t 0 := by
  refine .inl ⟨rfl, hbt, ?_, he⟩
  rw [hstatus]
  rcases hc with rfl | rfl | rfl | rfl <;> decide

/-- CompleteListen in an event that may end a LISTEN is the source of RXDONE (R205). -/
theorem irqSource_rxDone {e : Event} {s t : State} {c : Code}
    (hc : c = .ok ∨ c = .timeout ∨ c = .cancelled) (hbt : t.bt = .idle)
    (hstatus : t.btStatus = statusWord c (flagField true))
    (he : e = .hostWrite 0x000#12 0x0004 ∨ e = .hostWrite 0x000#12 0x0005 ∨ e = .tick) :
    IrqSource e s t 1 := by
  refine .inr (.inl ⟨rfl, hbt, ?_, he⟩)
  rw [hstatus]
  rcases hc with rfl | rfl | rfl <;> decide

/-- A status word's CODE is its value modulo 16 (R23). -/
theorem statusWord_toNat (c : Code) (field : BitVec 4) :
    (statusWord c field).toNat = c.bits.toNat + 16 * field.toNat := by
  have hcode := c.bits.isLt
  have hfield := field.isLt
  rw [statusWord_eq_ofNat, BitVec.toNat_ofNat]
  omega

/-- A refused CMD write is the source of OPERR (R102, R103). -/
theorem irqSource_opErr {s : State} {c : Code} (v : Word) (op : BitVec 4)
    (hc : c = .busy ∨ c = .illegalOp) :
    IrqSource (.hostWrite 0x000#12 v) s (s.refuseOp c op) 2 := by
  refine .inr (.inr (.inl ⟨rfl, ?_, v, rfl⟩))
  rw [State.refuseOp_opStatus, statusWord_toNat, Nat.add_mul_mod_self_left]
  rcases hc with rfl | rfl <;> decide

/-- An event sets no bit of IRQ_PEND, or one bit by its row of R263. -/
theorem Effect.irqPend_cases {e : Event} {s t : State} (h : Effect s e t) :
    (∀ i, t.irqPend.getLsbD i = true → s.irqPend.getLsbD i = true) ∨
    ∃ k, t.irqPend = s.irqPend ||| BitVec.twoPow 16 k ∧ IrqSource e s t k := by
  cases h with
  | stored v _ _ => exact .inl fun _ => writeReg_irqPend
  | refused v op hc => exact .inr ⟨2, rfl, irqSource_opErr v op hc⟩
  | transmitNoFrame _ _ => exact .inr ⟨0, rfl, irqSource_txDone (.inr (.inl rfl)) rfl rfl (.inl rfl)⟩
  | transmitBusBusy _ _ _ _ =>
    exact .inr ⟨0, rfl, irqSource_txDone (.inr (.inr (.inr rfl))) rfl rfl (.inl rfl)⟩
  | cancelWait _ => exact .inr ⟨0, rfl, irqSource_txDone (.inr (.inr (.inl rfl))) rfl rfl (.inr (.inl rfl))⟩
  | tickBusBusy _ _ =>
    exact .inr ⟨0, rfl, irqSource_txDone (.inr (.inr (.inr rfl))) rfl rfl (.inr (.inr (.inl rfl)))⟩
  | drain _ _ => exact .inr ⟨0, rfl, irqSource_txDone (.inl rfl) rfl rfl (.inr (.inr (.inr rfl)))⟩
  | listenEmpty _ _ => exact .inr ⟨1, rfl, irqSource_rxDone (.inr (.inl rfl)) rfl rfl (.inl rfl)⟩
  | cancelListen _ => exact .inr ⟨1, rfl, irqSource_rxDone (.inr (.inr rfl)) rfl rfl (.inr (.inl rfl))⟩
  | tickClose _ _ =>
    refine .inr ⟨1, rfl, irqSource_rxDone ?_ rfl rfl (.inr (.inr rfl))⟩
    split
    · exact .inr (.inl rfl)
    · exact .inl rfl
  | rxDropped b _ hbt hfull => exact .inr ⟨3, rfl, .inr (.inr (.inr ⟨rfl, hbt, hfull, b, rfl⟩))⟩
  | reset =>
    refine .inl fun i hi => ?_
    rw [show s.resetBlock.irqPend = 0 from rfl] at hi
    simp at hi
  | _ => exact .inl fun _ hi => hi

/-- TXBUF and TXLEN are written by an accepted ENCODE and by RESET (R80, R300). -/
theorem Effect.txBuf_cases {e : Event} {s t : State} (h : Effect s e t) :
    (t.txBuf = s.txBuf ∧ t.txLen = s.txLen) ∨
    (e = .hostWrite 0x000#12 0x0001 ∧ (s.bt = .idle ∨ s.bt = .listen) ∧
      t = performEncode (s.acceptOp 0x1)) ∨
    (e = .reset ∧ t = s.resetBlock) := by
  cases h with
  | stored v _ _ =>
    obtain ⟨-, -, -, hbuf, hlen, -⟩ := writeReg_frame s v ‹Reg›
    exact .inl ⟨hbuf, hlen⟩
  | encodeFailed hbt hlong => exact .inr (.inl ⟨rfl, hbt, (if_pos hlong).symm⟩)
  | encodeBuilt hbt hfits => exact .inr (.inl ⟨rfl, hbt, (if_neg (Nat.not_lt.2 hfits)).symm⟩)
  | reset => exact .inr (.inr ⟨rfl, rfl⟩)
  | _ => exact .inl ⟨rfl, rfl⟩

/-- In LISTEN, RXBUF and RXCNT are written by RX and by RESET (R80, R300). -/
theorem Effect.rxBuf_cases {e : Event} {s t : State} (h : Effect s e t) (hlisten : s.bt = .listen) :
    (t.rxBuf = s.rxBuf ∧ t.rxCnt = s.rxCnt) ∨ (∃ b, e = .rx b) ∨ e = .reset := by
  cases h with
  | stored v _ _ => exact .inl (writeReg_of_listen hlisten v _)
  | listenOpen hbt _ | listenEmpty hbt _ => rw [hlisten] at hbt; cases hbt
  | rxStored b _ _ _ => exact .inr (.inl ⟨b, rfl⟩)
  | reset => exact .inr (.inr rfl)
  | _ => exact .inl ⟨rfl, rfl⟩

/-- A TICK advances the inter-frame measurement by one at most (R201). -/
theorem advanceCounters_ifdElapsed_le (s : State) :
    s.advanceCounters.ifdElapsed.toNat ≤ s.ifdElapsed.toNat + 1 := by
  rw [State.advanceCounters_ifdElapsed]
  split
  · exact Nat.le_succ _
  · rw [satInc_toNat]; exact Nat.min_le_left _ _

/-- IFD_ELAPSED grows only by TICKs, by one each, RESET apart, which sets it to 0xFFFF (R38). -/
theorem Effect.ifdElapsed_le {e : Event} {s t : State} (h : Effect s e t) (he : e ≠ .reset) :
    t.ifdElapsed.toNat ≤ s.ifdElapsed.toNat + ticks [e] := by
  cases h with
  | stored v _ _ =>
    obtain ⟨-, -, -, -, -, -, -, -, -, -, -, -, hifd, -⟩ := writeReg_frame s v ‹Reg›
    rw [hifd]
    exact Nat.le_add_right _ _
  | tickUntimed _ _ | tickStart _ _ _ | tickBusBusy _ _ | tickWait _ _ | tickClose _ _ | tickListen _ _ =>
    exact advanceCounters_ifdElapsed_le s
  | drain _ _ => exact Nat.zero_le _
  | reset => exact absurd rfl he
  | _ => exact Nat.le_add_right _ _

/-- Along a run without RESET, IFD_ELAPSED grows by the number of TICKs at most. -/
theorem run_ifdElapsed_le {s t : State} {es : List Event} (h : Run s es t) (hes : .reset ∉ es) :
    t.ifdElapsed.toNat ≤ s.ifdElapsed.toNat + ticks es := by
  induction h with
  | done _ => exact Nat.le_add_right _ _
  | @more s u t e es _ hstep _ ih =>
    rw [List.mem_cons, not_or] at hes
    have hfirst := (runEvent_effect hstep).ifdElapsed_le (Ne.symm hes.1)
    have hrest := ih hes.2
    rw [ticks_cons]
    omega

/-- BT_TIMER after a TICK in WAIT or LISTEN: still below a limit that it has not reached, it has counted the TICK
exactly (R201). -/
theorem satInc_toNat_of_lt {v lim : Word} (h : ¬ lim ≤ satInc v) :
    (satInc v).toNat = v.toNat + 1 ∧ (satInc v).toNat < lim.toNat := by
  have hv := v.isLt
  have hlim := lim.isLt
  rw [BitVec.le_def, Nat.not_le] at h
  refine ⟨?_, h⟩
  rw [satInc_toNat] at h ⊢
  omega

/-- One event that leaves the sequencer in WAIT or in LISTEN: BT_TIMER counts the TICK, and stays below the limit that
would have ended the state (R192, R197). -/
theorem Effect.btTimer_of_timed {e : Event} {s t : State} (h : Effect s e t)
    (hs : s.bt = .wait ∨ s.bt = .listen) (ht : t.bt = s.bt) :
    t.btTimer.toNat = s.btTimer.toNat + ticks [e] ∧
      (ticks [e] ≠ 0 → (s.bt = .wait → t.btTimer.toNat < t.busyWaitMs.toNat) ∧
        (s.bt = .listen → t.btTimer.toNat < t.listenMs.toNat)) := by
  have hidle : s.bt ≠ .idle := by rcases hs with hs | hs <;> simp [hs]
  have htimed : s.advanceCounters.btTimer = satInc s.btTimer := if_pos hs
  cases h with
  | stored v _ _ =>
    obtain ⟨-, -, -, -, -, -, -, -, -, -, -, -, -, htimer, -⟩ := writeReg_frame s v ‹Reg›
    exact ⟨congrArg BitVec.toNat htimer, fun hne => absurd rfl hne⟩
  | tickWait hbt htimer =>
    rw [htimed] at htimer ⊢
    obtain ⟨hcount, hlt⟩ := satInc_toNat_of_lt htimer
    exact ⟨hcount, fun _ => ⟨fun _ => hlt, fun hl => by rw [hbt] at hl; cases hl⟩⟩
  | tickListen hbt htimer =>
    rw [htimed] at htimer ⊢
    obtain ⟨hcount, hlt⟩ := satInc_toNat_of_lt htimer
    exact ⟨hcount, fun _ => ⟨fun hw => (by rw [hbt] at hw; cases hw), fun _ => hlt⟩⟩
  | tickUntimed hw hl => exact absurd hs (by simp [hw, hl])
  | transmitNoFrame hbt _ | transmitStart hbt _ _ _ | transmitBusBusy hbt _ _ _ | transmitWait hbt _ _ _
  | listenOpen hbt _ | listenEmpty hbt _ => exact absurd hbt hidle
  | tickStart hbt _ _ => rw [hbt] at ht; cases ht
  | tickBusBusy _ _ | tickClose _ _ | reset => exact absurd ht.symm hidle
  | _ => exact ⟨rfl, fun hne => absurd rfl hne⟩

/-- A run visits its first and its last state. -/
theorem RunIn.first {P : State → Prop} {s t : State} {es : List Event} (h : RunIn P s es t) : P s := by
  cases h <;> assumption

theorem RunIn.last {P : State → Prop} {s t : State} {es : List Event} (h : RunIn P s es t) : P t := by
  induction h with
  | done hP => exact hP
  | more _ _ _ ih => exact ih

/-- Where every event counts its TICK in BT_TIMER and a TICK leaves it below `lim`, a run with TICKs has fewer of them
than `lim` (R212). -/
theorem runIn_ticks_lt {P : State → Prop} {lim : Nat}
    (hcount : ∀ e s t, P s → P t → runEvent e s = .next t →
      t.btTimer.toNat = s.btTimer.toNat + ticks [e] ∧ (ticks [e] ≠ 0 → t.btTimer.toNat < lim))
    {s t : State} {es : List Event} (h : RunIn P s es t) (hes : ticks es ≠ 0) :
    s.btTimer.toNat + ticks es < lim := by
  induction h with
  | done _ => exact absurd rfl hes
  | @more s u t e es hs hstep hrest ih =>
    obtain ⟨htimer, hlt⟩ := hcount e s u hs hrest.first hstep
    rw [ticks_cons] at hes ⊢
    by_cases hlater : ticks es = 0
    · have := hlt (by omega)
      omega
    · have := ih hlater
      omega

end Sys2Proof.Machine
end

section
/-! The obligations of 41_bus_timing, 60_exceptions, 20_memory and 70_reset_and_hazards on what each event may
change: case analyses of `Effect`. -/

namespace Sys2Proof.Proofs
open Sys2Proof.Machine

/-- Settles O45: the outcomes of an event that leave another BT_STATE are the rows of the table. -/
theorem sequencerTransitions : Obligations.SequencerTransitions := by
  unfold Obligations.SequencerTransitions
  intro e s t h hne
  cases runEvent_effect h with
  | transmitStart hbt hlen _ _ => exact .inl ⟨hbt, rfl, hlen, .inr rfl⟩
  | transmitWait hbt hlen _ _ => exact .inl ⟨hbt, rfl, hlen, .inl rfl⟩
  | listenOpen hbt hms => exact .inr (.inl ⟨hbt, rfl, hms, rfl⟩)
  | tickStart hbt hquiet hifd => exact .inr (.inr (.inl ⟨hbt, rfl, rfl, rfl, hquiet, hifd⟩))
  | tickBusBusy hbt htimer => exact .inr (.inr (.inr (.inl ⟨hbt, rfl, rfl, htimer, rfl, rfl⟩)))
  | cancelWait hbt => exact .inr (.inr (.inr (.inr (.inl ⟨hbt, rfl, rfl, rfl, rfl⟩))))
  | drain hbt hidx => exact .inr (.inr (.inr (.inr (.inr (.inl ⟨hbt, rfl, hidx, rfl, rfl, rfl, rfl⟩)))))
  | tickClose hbt htimer =>
    have hstatus := congrArg State.btStatus (completeListen_windowEnd s.advanceCounters)
    exact .inr (.inr (.inr (.inr (.inr (.inr (.inl ⟨hbt, rfl, rfl, htimer, hstatus, rfl⟩))))))
  | cancelListen hbt => exact .inr (.inr (.inr (.inr (.inr (.inr (.inr (.inl ⟨hbt, rfl, rfl, rfl, rfl⟩)))))))
  | reset => exact .inr (.inr (.inr (.inr (.inr (.inr (.inr (.inr ⟨rfl, rfl⟩)))))))
  | stored v _ _ =>
    obtain ⟨-, hbt, -⟩ := writeReg_frame s v ‹Reg›
    exact absurd hbt hne
  | transmitNoFrame hbt _ | transmitBusBusy hbt _ _ _ | listenEmpty hbt _ => exact absurd hbt.symm hne
  | _ => exact absurd rfl hne

/-- Settles O47: every event sets at most one bit, each of them only at its row of R263. -/
theorem interruptSources : Obligations.InterruptSources := by
  unfold Obligations.InterruptSources
  intro e s t h i hset hclear
  rcases (runEvent_effect h).irqPend_cases with hnone | ⟨k, hraise, hsource⟩
  · rw [hnone i hset] at hclear; cases hclear
  · have hbit (j : Nat) (hj : t.irqPend.getLsbD j = true) (hj' : s.irqPend.getLsbD j = false) : j = k :=
      eq_of_getLsbD_or_twoPow (hraise ▸ hj) hj'
    obtain rfl := hbit i hset hclear
    exact ⟨hbit, hsource⟩

/-- Settles O46: the only outcomes that write the transmit buffer are those of ENCODE and RESET, and in LISTEN the
host port leaves the receive buffer alone. -/
theorem bufferOwnership : Obligations.BufferOwnership := by
  unfold Obligations.BufferOwnership
  intro e s t h
  refine ⟨fun hchange => ?transmit, fun hbt hchange => ?receive⟩
  case transmit =>
    rcases (runEvent_effect h).txBuf_cases with ⟨hbuf, hlen⟩ | ⟨he, hbt, -⟩ | ⟨he, -⟩
    · exact absurd hchange (by simp [hbuf, hlen])
    · exact .inl ⟨he, by rcases hbt with h | h <;> simp [h], by rcases hbt with h | h <;> simp [h]⟩
    · exact .inr he
  case receive =>
    rcases (runEvent_effect h).rxBuf_cases hbt with ⟨hbuf, hcnt⟩ | he
    · exact absurd hchange (by simp [hbuf, hcnt])
    · exact he

/-- Settles O48: in IDLE these events count, restart IDLE_MS, or do nothing. -/
theorem quiescentBlockOnlyCounts : Obligations.QuiescentBlockOnlyCounts := by
  unfold Obligations.QuiescentBlockOnlyCounts
  intro e s t hidle he h
  cases runEvent_effect h with
  | tickUntimed _ _ => simp [State.advanceCounters, hidle]
  | tickStart hbt _ _ | tickBusBusy hbt _ | tickWait hbt _ | tickClose hbt _ | tickListen hbt _ =>
    rw [hidle] at hbt; cases hbt
  | rxStored _ _ hbt _ | rxDropped _ _ hbt _ | accept hbt _ | drain hbt _ => rw [hidle] at hbt; cases hbt
  | rxUnseen _ _ | rxOutside _ _ _ | acceptNone _ | drainNone _ => rfl
  | _ => cases he

/-- Settles O52: IFD_ELAPSED is 0 after the drain and grows by the TICKs at most, and the start test compares IFD_MS
with it. -/
theorem interFrameDelayBeforeStart : Obligations.InterFrameDelayBeforeStart := by
  unfold Obligations.InterFrameDelayBeforeStart
  intro e s s' t u es hdrained hdrain hrun hreset htx hstart hutx
  have hzero : s'.ifdElapsed.toNat = 0 := by
    cases hdrain
    rw [State.txDrainEvent, if_pos hdrained]
    rfl
  have hne : e ≠ .reset := by
    rintro rfl
    cases hstart
    cases hutx
  obtain ⟨-, hmet⟩ := runEvent_starts hstart htx hutx
  calc u.ifdMs.toNat
      ≤ u.ifdElapsed.toNat := u.ifdMet_iff.1 hmet
    _ ≤ t.ifdElapsed.toNat + ticks [e] := (runEvent_effect hstart).ifdElapsed_le hne
    _ ≤ s'.ifdElapsed.toNat + ticks es + ticks [e] := Nat.add_le_add_right (run_ifdElapsed_le hrun hreset) _
    _ = ticks (es ++ [e]) := by rw [hzero, ticks_append, Nat.zero_add]

/-- Settles O53: in WAIT a TICK that does not end the wait leaves BT_TIMER below BUSY_WAIT_MS (R192). -/
theorem waitIsBounded : Obligations.WaitIsBounded := by
  unfold Obligations.WaitIsBounded
  intro s t es lim hzero hrun hticks
  have hbound := runIn_ticks_lt (fun e s t ⟨hs, _⟩ ⟨ht, hlim⟩ h =>
    have ⟨hcount, hlt⟩ := (runEvent_effect h).btTimer_of_timed (.inl hs) (ht.trans hs.symm)
    ⟨hcount, fun hne => ((hlt hne).1 hs).trans_le hlim⟩) hrun hticks
  simpa [hzero] using hbound

/-- Settles O54: in LISTEN a TICK that does not close the window leaves BT_TIMER below LISTEN_MS (R197). -/
theorem listenIsBounded : Obligations.ListenIsBounded := by
  unfold Obligations.ListenIsBounded
  intro s t es lim hzero hrun hticks
  have hbound := runIn_ticks_lt (fun e s t ⟨hs, _⟩ ⟨ht, hlim⟩ h =>
    have ⟨hcount, hlt⟩ := (runEvent_effect h).btTimer_of_timed (.inr hs) (ht.trans hs.symm)
    ⟨hcount, fun hne => ((hlt hne).2 hs).trans_le hlim⟩) hrun hticks
  simpa [hzero] using hbound

end Sys2Proof.Proofs
end

section
/-! SUPPORT. DecodeWindow's answers as one family (R146), and the result registers written from them (R148): their
lengths, and the bytes above RES_DLEN. -/

namespace Sys2Proof.Machine

/-- A number that fits a width is kept by it. -/
theorem toNat_ofNat_of_lt {w n : Nat} (h : n < 2 ^ w) : (BitVec.ofNat w n).toNat = n :=
  (BitVec.toNat_ofNat n w).trans (Nat.mod_eq_of_lt h)

/-- What DecodeWindow can answer on a window of `n` bytes with at most `maxd` data bytes (R146, R149 to R152). -/
inductive DecodeOutcome (maxd n : Nat) : DecodeResult → Prop where
  | shortWindow : DecodeOutcome maxd n ⟨.incomplete, .shortWindow, none, none, none⟩
  | noHeader : DecodeOutcome maxd n ⟨.incomplete, .noHeader, none, none, none⟩
  | noFooter {h : Nat} : h < n → DecodeOutcome maxd n ⟨.incomplete, .noFooter, some h, none, none⟩
  | runt {h e : Nat} : h < n → e ≤ n →
      DecodeOutcome maxd n ⟨.checksumMismatch, .runt, some h, some e, none⟩
  | overlong {h e : Nat} : h < n → e ≤ n →
      DecodeOutcome maxd n ⟨.checksumMismatch, .overlong, some h, some e, none⟩
  | ok {h e : Nat} {f : Fields} : h < n → e ≤ n → f.data.length ≤ maxd → f.calcSum = f.rck →
      DecodeOutcome maxd n ⟨.ok, .noDetail, some h, some e, some f⟩
  | badSum {h e : Nat} {f : Fields} : h < n → e ≤ n → f.data.length ≤ maxd → f.calcSum ≠ f.rck →
      DecodeOutcome maxd n ⟨.checksumMismatch, .badSum, some h, some e, some f⟩

/-- The data of a candidate payload are what is left of it after destination, command and checksum (R151). -/
theorem payloadFields_data_length_le (seed : Byte) (p : List Byte) :
    (payloadFields seed p).data.length ≤ p.length - 3 := by
  rw [show (payloadFields seed p).data = (p.drop 2).take (p.length - 3) from rfl]
  exact List.length_take_le _ _

theorem decodeWindow_outcome (win : List Byte) (seed : Byte) (maxd : Nat) :
    DecodeOutcome maxd win.length (decodeWindow win seed maxd) := by
  rcases decodeWindow_cases win seed maxd with
    ⟨-, he⟩ | ⟨-, -, he⟩ | ⟨h, -, hhead, -, he⟩ | ⟨h, len, -, hhead, hfoot, he⟩ <;> rw [he]
  · exact .shortWindow
  · exact .noHeader
  · exact .noFooter (Nat.lt_of_succ_lt (findPair_succ_lt_length hhead))
  · have hh := findPair_succ_lt_length hhead
    have hl := findPair_succ_lt_length hfoot
    rw [List.length_drop] at hl
    have hp : ((win.drop (h + 2)).take len).length = len := by
      rw [List.length_take, List.length_drop]; omega
    have hdata := payloadFields_data_length_le seed ((win.drop (h + 2)).take len)
    rcases closeFrame_cases seed maxd h ((win.drop (h + 2)).take len) with
      ⟨-, he⟩ | ⟨-, -, he⟩ | ⟨-, hmax, hsum, he⟩ | ⟨-, hmax, hsum, he⟩ <;> rw [he]
    · exact .runt (by omega) (by omega)
    · exact .overlong (by omega) (by omega)
    · exact .ok (by omega) (by omega) (hdata.trans hmax) hsum
    · exact .badSum (by omega) (by omega) (hdata.trans hmax) hsum

/-- DEC_STATUS takes only the values of R26. -/
theorem DecodeOutcome.status_mem {maxd n : Nat} {r : DecodeResult} (h : DecodeOutcome maxd n r) :
    statusWord r.code r.detail.bits ∈
      [0x0000#16, 0x0001#16, 0x0012#16, 0x0022#16, 0x0032#16, 0x0043#16, 0x0053#16, 0x0063#16] := by
  cases h <;> dsimp only <;> decide

theorem DecodeOutcome.fields_length {maxd n : Nat} {r : DecodeResult} (h : DecodeOutcome maxd n r) {f : Fields}
    (hf : r.fields = some f) : f.data.length ≤ maxd := by
  cases h with
  | ok _ _ hlen _ | badSum _ _ hlen _ => cases hf; exact hlen
  | _ => cases hf

/-- The indices a decode reports lie inside the window, or just past it. -/
theorem DecodeOutcome.start_lt {maxd n : Nat} {r : DecodeResult} (h : DecodeOutcome maxd n r) {k : Nat}
    (hk : r.start = some k) : k < n := by
  cases h with
  | shortWindow | noHeader => cases hk
  | noFooter hlt | runt hlt _ | overlong hlt _ | ok hlt _ _ _ | badSum hlt _ _ _ => cases hk; exact hlt

theorem DecodeOutcome.stop_le {maxd n : Nat} {r : DecodeResult} (h : DecodeOutcome maxd n r) {k : Nat}
    (hk : r.stop = some k) : k ≤ n := by
  cases h with
  | shortWindow | noHeader | noFooter _ => cases hk
  | runt _ hle | overlong _ hle | ok _ hle _ _ | badSum _ hle _ _ => cases hk; exact hle

/-- RES_DATA keeps its length (R57). -/
theorem resultsOf_data_length {maxd off : Nat} {r : DecodeResult}
    (h : ∀ f, r.fields = some f → f.data.length ≤ maxd) : (resultsOf maxd off r).data.length = maxd := by
  unfold resultsOf
  cases hf : r.fields with
  | none => simp
  | some f => simpa using Nat.add_sub_of_le (h f hf)

/-- RES_DLEN holds the number of data bytes (R52); it fits, for MAX_DATA is at most 248. -/
theorem resultsOf_dlen_toNat {maxd off : Nat} {r : DecodeResult} (hmaxd : maxd ≤ 248)
    (h : ∀ f, r.fields = some f → f.data.length ≤ maxd) :
    (resultsOf maxd off r).dlen.toNat = (r.fields.map fun f => f.data.length).getD 0 := by
  unfold resultsOf
  cases hf : r.fields with
  | none => rfl
  | some f => exact toNat_ofNat_of_lt (by have := h f hf; omega)

/-- RES_DATA holds the data bytes, and 0 above them (R57, R148). -/
theorem resultsOf_data {maxd off : Nat} {r : DecodeResult} :
    (resultsOf maxd off r).data = (r.fields.map Fields.data).getD [] ++
      List.replicate (maxd - (r.fields.map fun f => f.data.length).getD 0) 0 := by
  unfold resultsOf
  cases r.fields <;> rfl

theorem resultsOf_data_tail {maxd off : Nat} {r : DecodeResult} (hmaxd : maxd ≤ 248)
    (h : ∀ f, r.fields = some f → f.data.length ≤ maxd) :
    ∀ b ∈ (resultsOf maxd off r).data.drop (resultsOf maxd off r).dlen.toNat, b = 0 := by
  intro b hb
  rw [resultsOf_dlen_toNat hmaxd h, resultsOf_data] at hb
  cases hf : r.fields with
  | none => simp only [hf] at hb; exact List.eq_of_mem_replicate (List.mem_of_mem_drop hb)
  | some f =>
    simp only [hf, Option.map_some, Option.getD_some, List.drop_left] at hb
    exact List.eq_of_mem_replicate hb

end Sys2Proof.Machine
end

section
/-! SUPPORT. Each update keeps the invariant of the reachable states (R8, R21, R60): the parts it does not write are
carried over, and the part it writes is shown. -/

namespace Sys2Proof.Machine

/-- The codes OP_STATUS may hold (R23). -/
theorem opStatus_ok {c : Code} (op : BitVec 4) (hc : c = .ok ∨ c = .busy ∨ c = .illegalOp) :
    (statusWord c op).toNat < 256 ∧ (statusWord c op).toNat % 16 ∈ [0, 1, 8, 9] := by
  have hop := op.isLt
  rw [statusWord_toNat]
  rcases hc with rfl | rfl | rfl <;> simp only [Code.bits] <;> constructor <;> first | omega | simp

/-- Setting an implemented bit leaves the reserved bits of IRQ_PEND 0 (R28). -/
theorem or_toNat_lt_sixteen {w bits : Word} (hw : w.toNat < 16) (hb : bits.toNat < 16) :
    (w ||| bits).toNat < 16 := by
  rw [BitVec.toNat_or]
  exact Nat.or_lt_two_pow (n := 4) hw hb

theorem and_toNat_le_left (w v : Word) : (w &&& v).toNat ≤ w.toNat := by
  rw [BitVec.toNat_and]
  exact Nat.and_le_left

theorem and_toNat_le_right (w v : Word) : (w &&& v).toNat ≤ v.toNat := by
  rw [BitVec.toNat_and]
  exact Nat.and_le_right

namespace State.Inv
variable {s : State}

theorem acceptOp (h : s.Inv) (op : BitVec 4) : (s.acceptOp op).Inv := by
  obtain ⟨hlen, hrange, ⟨-, hstatus⟩, hseq⟩ := h
  exact ⟨hlen, hrange, ⟨opStatus_ok op (.inl rfl), hstatus⟩, hseq⟩

theorem raiseIrq (h : s.Inv) {bits : Word} (hbits : bits.toNat < 16) : (s.raiseIrq bits).Inv := by
  obtain ⟨hlen, hrange, ⟨hop, henc, hdec, hbts, hpend, hen⟩, hseq⟩ := h
  exact ⟨hlen, hrange, ⟨hop, henc, hdec, hbts, or_toNat_lt_sixteen hpend hbits, hen⟩, hseq⟩

theorem refuseOp (h : s.Inv) {c : Code} (op : BitVec 4) (hc : c = .busy ∨ c = .illegalOp) :
    (s.refuseOp c op).Inv := by
  have hinv : ({ s with opStatus := statusWord c op } : State).Inv := by
    obtain ⟨hlen, hrange, ⟨-, hstatus⟩, hseq⟩ := h
    exact ⟨hlen, hrange, ⟨opStatus_ok op (.inr hc), hstatus⟩, hseq⟩
  exact hinv.raiseIrq (by decide)

/-- The end of a TRANSMIT: IDLE, TE = 0 (R204). -/
theorem completeTx (h : s.Inv) {c : Code}
    (hc : c = .ok ∨ c = .invalidPayload ∨ c = .cancelled ∨ c = .busBusy) : (s.completeTx c).Inv := by
  have hinv : ({ s with
      bt := .idle, te := false, btStatus := statusWord c (flagField false) } : State).Inv := by
    obtain ⟨hlen, hrange, ⟨hop, henc, hdec, -, hirq⟩, -⟩ := h
    refine ⟨hlen, hrange, ⟨hop, henc, hdec, ?_, hirq⟩, rfl, nofun, nofun⟩
    rcases hc with rfl | rfl | rfl | rfl <;> dsimp only <;> decide
  exact hinv.raiseIrq (by decide)

/-- The end of a LISTEN: TE is 0 before and after it (R205). -/
theorem completeListen (h : s.Inv) (hbt : s.bt ≠ .tx) {c : Code}
    (hc : c = .ok ∨ c = .timeout ∨ c = .cancelled) : (s.completeListen c).Inv := by
  have hte := h.te_eq_false hbt
  have hinv : ({ s with bt := .idle, btStatus := statusWord c (flagField true) } : State).Inv := by
    obtain ⟨hlen, hrange, ⟨hop, henc, hdec, -, hirq⟩, -⟩ := h
    refine ⟨hlen, hrange, ⟨hop, henc, hdec, ?_, hirq⟩, hte, nofun, nofun⟩
    rcases hc with rfl | rfl | rfl <;> dsimp only <;> decide
  exact hinv.raiseIrq (by decide)

/-- A transmission starts with a frame (R193). -/
theorem startTx (h : s.Inv) (hframe : s.txLen ≠ 0) : s.startTx.Inv := by
  obtain ⟨hlen, hrange, hstatus, -⟩ := h
  exact ⟨hlen, hrange, hstatus, rfl, fun _ => hframe, fun _ => Nat.zero_le _⟩

/-- A TRANSMIT waits with a frame (R191). -/
theorem enterWait (h : s.Inv) (hbt : s.bt ≠ .tx) (hframe : s.txLen ≠ 0) : s.enterWait.Inv := by
  have hte := h.te_eq_false hbt
  obtain ⟨hlen, hrange, hstatus, -⟩ := h
  exact ⟨hlen, hrange, hstatus, hte, fun _ => hframe, nofun⟩

/-- A window opens empty (R196). -/
theorem enterListen (h : s.Inv) (hbt : s.bt ≠ .tx) : s.enterListen.Inv := by
  have hte := h.te_eq_false hbt
  obtain ⟨hlen, ⟨hquiet, hifd, -, hrange⟩, hstatus, -⟩ := h
  exact ⟨hlen, ⟨hquiet, hifd, Nat.zero_le _, hrange⟩, hstatus, hte, fun hb => hb.elim nofun nofun, nofun⟩

/-- The invariant does not speak of the counters. -/
theorem advanceCounters (h : s.Inv) : s.advanceCounters.Inv := h

/-- A waiting or running TRANSMIT has a frame (R191). -/
theorem txLen_ne_zero (h : s.Inv) (hbt : s.bt = .wait ∨ s.bt = .tx) : s.txLen ≠ 0 := by
  obtain ⟨-, -, -, -, hframe, -⟩ := h
  exact hframe hbt

/-- The legal parameters as bounds (R8). -/
theorem params_bounds (h : s.Inv) :
    s.params.maxData ≤ 248 ∧ 7 + s.params.maxData ≤ s.params.rxbufLen ∧ s.params.rxbufLen ≤ 3072 := by
  obtain ⟨⟨hlegal, -⟩, -⟩ := h
  exact (legal_iff _).1 hlegal

/-- An ENCODE that fails leaves no frame (R145); it is accepted outside WAIT and TX only. -/
theorem failEncode (h : s.Inv) (hbt : s.bt = .idle ∨ s.bt = .listen) : s.failEncode.Inv := by
  obtain ⟨hlen, ⟨hquiet, hifd, hcnt, -, hdlen⟩, ⟨hop, -, hstatus⟩, hte, -, -⟩ := h
  have hfree : ¬ (s.bt = .wait ∨ s.bt = .tx) := by rcases hbt with hbt | hbt <;> simp [hbt]
  exact ⟨hlen, ⟨hquiet, hifd, hcnt, .inl rfl, hdlen⟩, ⟨hop, .tail _ (.tail _ (.tail _ (.head _))), hstatus⟩, hte,
    fun hb => absurd hb hfree, fun hb => absurd (.inr hb) hfree⟩

/-- ENCODE's DATA operand has ENC_DLEN bytes (R44, R113). -/
theorem encodeData_length (h : s.Inv) (hfits : s.encDlen.toNat ≤ s.params.maxData) :
    s.encodeData.length = s.encDlen.toNat := by
  obtain ⟨⟨-, hdata, -⟩, -⟩ := h
  rw [State.encodeData, List.length_take_of_le (by rw [hdata]; exact hfits)]

/-- TXLEN after an ENCODE that builds a frame (R143). -/
theorem buildFrame_txLen (h : s.Inv) (hfits : s.encDlen.toNat ≤ s.params.maxData) :
    s.buildFrame.txLen.toNat = s.encDlen.toNat + 7 := by
  obtain ⟨hmax, -⟩ := h.params_bounds
  rw [show s.buildFrame.txLen = BitVec.ofNat 8 (encodeFrame s.ckSeed s.encDest s.encCmd s.encodeData).length
    from rfl, encodeFrame_length, h.encodeData_length hfits]
  exact toNat_ofNat_of_lt (by omega)

/-- WARN_FOOTER aside, a built frame is answered OK (R25). -/
theorem buildFrame_encStatus (s : State) :
    s.buildFrame.encStatus = 0x0001#16 ∨ s.buildFrame.encStatus = 0x0011#16 := by
  rw [show s.buildFrame.encStatus = statusWord .ok
    (flagField (notTransparent (payload s.ckSeed s.encDest s.encCmd s.encodeData))) from rfl]
  cases notTransparent (payload s.ckSeed s.encDest s.encCmd s.encodeData)
  · exact .inl rfl
  · exact .inr rfl

/-- An ENCODE that builds a frame (R143). -/
theorem buildFrame (h : s.Inv) (hbt : s.bt = .idle ∨ s.bt = .listen)
    (hfits : s.encDlen.toNat ≤ s.params.maxData) : s.buildFrame.Inv := by
  have htxLen := h.buildFrame_txLen hfits
  have hdata := h.encodeData_length hfits
  have hfree : ¬ (s.bt = .wait ∨ s.bt = .tx) := by rcases hbt with hbt | hbt <;> simp [hbt]
  obtain ⟨⟨hlegal, hencData, htxBuf, hbufs⟩, ⟨hquiet, hifd, hcnt, -, hdlen⟩, ⟨hop, -, hstatus⟩, hte, -, -⟩ := h
  refine ⟨⟨hlegal, hencData, ?txBuf, hbufs⟩, ⟨hquiet, hifd, hcnt, .inr ?txLen, hdlen⟩,
    ⟨hop, ?encStatus, hstatus⟩, hte, fun hb => absurd hb hfree, fun hb => absurd (.inr hb) hfree⟩
  case txBuf =>
    rw [show s.buildFrame.txBuf = encodeFrame s.ckSeed s.encDest s.encCmd s.encodeData ++
      s.txBuf.drop (encodeFrame s.ckSeed s.encDest s.encCmd s.encodeData).length from rfl,
      List.length_append, List.length_drop, encodeFrame_length, hdata, htxBuf]
    exact Nat.add_sub_of_le (by omega)
  case txLen =>
    rw [htxLen]
    exact ⟨Nat.le_add_left _ _, by rw [Nat.add_comm]; exact Nat.add_le_add_left hfits 7⟩
  case encStatus =>
    rcases buildFrame_encStatus s with henc | henc <;> rw [henc] <;> decide

/-- DECODE writes a legal status and result registers of the right lengths (R26, R52, R57). -/
theorem performDecode (h : s.Inv) : (performDecode s).Inv := by
  have hmax := h.params_bounds.1
  have hout := decodeWindow_outcome s.decodeInput s.ckSeed s.params.maxData
  have hfields := fun f => hout.fields_length (f := f)
  obtain ⟨⟨hlegal, hencData, htxBuf, hrxBuf, -⟩, ⟨hquiet, hifd, hcnt, htxLen, -⟩,
    ⟨hop, henc, -, hstatus⟩, hseq⟩ := h
  refine ⟨⟨hlegal, hencData, htxBuf, hrxBuf, resultsOf_data_length hfields⟩,
    ⟨hquiet, hifd, hcnt, htxLen, ?dlen⟩, ⟨hop, henc, hout.status_mem, hstatus⟩, hseq⟩
  case dlen =>
    refine (resultsOf_dlen_toNat hmax hfields).trans_le ?_
    cases hf : (decodeWindow s.decodeInput s.ckSeed s.params.maxData).fields with
    | none => exact Nat.zero_le _
    | some f => exact hfields f hf

/-- What a host write of RXCNT stores fits the buffer (R48). -/
theorem rxCntLegal_toNat {p : Params} (hp : p.rxbufLen ≤ 3072) (v : Word) :
    (rxCntLegal p v).toNat = min v.toNat p.rxbufLen :=
  toNat_ofNat_of_lt (by have := v.isLt; omega)

/-- A host write stores a legal value in each register (R75). -/
theorem writeReg (h : s.Inv) (v : Word) (r : Reg) : (writeReg s v r).Inv := by
  obtain ⟨-, -, hrxbuf⟩ := h.params_bounds
  obtain ⟨⟨hlegal, hencData, htxBuf, hrxBuf, hres⟩, ⟨hquiet, hifd, hcnt, hrange⟩,
    ⟨hop, henc, hdec, hbts, hpend, hen⟩, hseq⟩ := id h
  cases r with
  | irqPend =>
    exact ⟨⟨hlegal, hencData, htxBuf, hrxBuf, hres⟩, ⟨hquiet, hifd, hcnt, hrange⟩,
      ⟨hop, henc, hdec, hbts, (and_toNat_le_left _ _).trans_lt hpend, hen⟩, hseq⟩
  | irqEn =>
    exact ⟨⟨hlegal, hencData, htxBuf, hrxBuf, hres⟩, ⟨hquiet, hifd, hcnt, hrange⟩,
      ⟨hop, henc, hdec, hbts, hpend, (and_toNat_le_right v irqMask).trans_lt (by decide)⟩, hseq⟩
  | quietMs =>
    refine ⟨⟨hlegal, hencData, htxBuf, hrxBuf, hres⟩, ⟨?_, hifd, hcnt, hrange⟩,
      ⟨hop, henc, hdec, hbts, hpend, hen⟩, hseq⟩
    dsimp only [Machine.writeReg]
    rw [clamp_toNat v Config.quietMin Config.quietMax (by decide)]
    exact ⟨Nat.le_max_left _ _, Nat.max_le.2 ⟨by decide, Nat.min_le_right _ _⟩⟩
  | ifdMs =>
    refine ⟨⟨hlegal, hencData, htxBuf, hrxBuf, hres⟩, ⟨hquiet, ?_, hcnt, hrange⟩,
      ⟨hop, henc, hdec, hbts, hpend, hen⟩, hseq⟩
    dsimp only [Machine.writeReg]
    rw [clamp_toNat v Config.ifdMin Config.ifdMax (by decide)]
    exact ⟨Nat.le_max_left _ _, Nat.max_le.2 ⟨by decide, Nat.min_le_right _ _⟩⟩
  | rxCnt =>
    rw [Machine.writeReg]
    split
    · exact h
    · exact ⟨⟨hlegal, hencData, htxBuf, hrxBuf, hres⟩,
        ⟨hquiet, hifd, (rxCntLegal_toNat hrxbuf v).trans_le (Nat.min_le_right _ _), hrange⟩,
        ⟨hop, henc, hdec, hbts, hpend, hen⟩, hseq⟩
  | rxBuf i =>
    rw [Machine.writeReg]
    split
    · exact h
    · exact ⟨⟨hlegal, hencData, htxBuf, (List.length_set ..).trans hrxBuf, hres⟩,
        ⟨hquiet, hifd, hcnt, hrange⟩, ⟨hop, henc, hdec, hbts, hpend, hen⟩, hseq⟩
  | encData i =>
    exact ⟨⟨hlegal, (List.length_set ..).trans hencData, htxBuf, hrxBuf, hres⟩,
      ⟨hquiet, hifd, hcnt, hrange⟩, ⟨hop, henc, hdec, hbts, hpend, hen⟩, hseq⟩
  | _ => exact h

/-- A received byte is stored only where RXBUF has room (R198, R200). -/
theorem storeRx (h : s.Inv) (hroom : s.rxCnt.toNat < s.params.rxbufLen) (b : Byte) : (s.storeRx b).Inv := by
  obtain ⟨-, -, hrxbuf⟩ := h.params_bounds
  have hcount : (s.rxCnt + 1).toNat = s.rxCnt.toNat + 1 := by
    rw [BitVec.toNat_add]
    exact Nat.mod_eq_of_lt (by simp only [BitVec.ofNat_eq_ofNat, BitVec.toNat_ofNat]; omega)
  obtain ⟨⟨hlegal, hencData, htxBuf, hrxBuf, hres⟩, ⟨hquiet, hifd, -, hrange⟩, hstatus, hseq⟩ := h
  exact ⟨⟨hlegal, hencData, htxBuf, (List.length_set ..).trans hrxBuf, hres⟩,
    ⟨hquiet, hifd, hcount.trans_le hroom, hrange⟩, hstatus, hseq⟩

/-- TX_IDX advances inside the frame only (R194). -/
theorem txIdx_succ (hidx : s.txIdx.toNat < s.txLen.toNat) : (s.txIdx + 1).toNat = s.txIdx.toNat + 1 := by
  have hlen := s.txLen.isLt
  rw [BitVec.toNat_add]
  exact Nat.mod_eq_of_lt (by simp only [BitVec.ofNat_eq_ofNat, BitVec.toNat_ofNat]; omega)

/-- The state after reset, for legal parameters (R300). -/
theorem resetOf {p : Params} (hp : p.legal = true) : (State.resetOf p).Inv := by
  refine ⟨⟨hp, List.length_replicate, List.length_replicate, List.length_replicate, List.length_replicate⟩,
    ⟨?quietMs, ?ifdMs, Nat.zero_le _, .inl rfl, Nat.zero_le _⟩,
    ⟨?opStatus, ?encStatus, ?decStatus, ?btStatus, ?irqPend, ?irqEn⟩, rfl, nofun, nofun⟩ <;>
  · dsimp only [State.resetOf]
    decide

/-- Every event keeps the invariant. -/
theorem effect {e : Event} {t : State} (h : s.Inv) (he : Effect s e t) : t.Inv := by
  cases he with
  | stored v _ _ => exact h.writeReg v _
  | refused v op hc => exact h.refuseOp op hc
  | nop => exact h.acceptOp 0x0
  | encodeFailed hbt _ => exact (h.acceptOp 0x1).failEncode hbt
  | encodeBuilt hbt hfits => exact (h.acceptOp 0x1).buildFrame hbt hfits
  | decode => exact (h.acceptOp 0x2).performDecode
  | transmitNoFrame _ _ => exact (h.acceptOp 0x3).completeTx (.inr (.inl rfl))
  | transmitStart hbt hframe _ _ => exact ((h.acceptOp 0x3).enterWait (hbt ▸ nofun) hframe).startTx hframe
  | transmitBusBusy hbt hframe _ _ =>
    exact ((h.acceptOp 0x3).enterWait (hbt ▸ nofun) hframe).completeTx (.inr (.inr (.inr rfl)))
  | transmitWait hbt hframe _ _ => exact (h.acceptOp 0x3).enterWait (hbt ▸ nofun) hframe
  | listenOpen hbt _ => exact (h.acceptOp 0x4).enterListen (hbt ▸ nofun)
  | listenEmpty hbt _ =>
    exact ((h.acceptOp 0x4).enterListen (hbt ▸ nofun)).completeListen nofun (.inr (.inl rfl))
  | cancelIdle _ => exact h.acceptOp 0x5
  | cancelWait _ => exact (h.acceptOp 0x5).completeTx (.inr (.inr (.inl rfl)))
  | cancelListen hbt => exact (h.acceptOp 0x5).completeListen (hbt ▸ nofun) (.inr (.inr rfl))
  | tickUntimed _ _ | tickWait _ _ | tickListen _ _ => exact h.advanceCounters
  | tickStart hbt _ _ => exact h.advanceCounters.startTx (h.txLen_ne_zero (.inl hbt))
  | tickBusBusy _ _ => exact h.advanceCounters.completeTx (.inr (.inr (.inr rfl)))
  | tickClose hbt _ =>
    refine h.advanceCounters.completeListen (hbt ▸ nofun) ?_
    split
    · exact .inr (.inl rfl)
    · exact .inl rfl
  | rxStored b _ _ hroom => exact h.storeRx hroom b
  | rxDropped b _ _ _ => exact h.raiseIrq (bits := irqRxOvf) (by decide)
  | accept hbt hidx =>
    obtain ⟨hlen, hrange, hstatus, hte, hframe, -⟩ := h
    exact ⟨hlen, hrange, hstatus, hte, hframe, fun _ => (txIdx_succ hidx).trans_le hidx⟩
  | drain _ _ => exact h.completeTx (.inl rfl)
  | reset =>
    obtain ⟨⟨hlegal, -⟩, -⟩ := h
    exact resetOf hlegal
  | _ => exact h

theorem takeEvent (h : s.Inv) : s.takeEvent.Inv := by
  unfold State.takeEvent
  split <;> exact h

end State.Inv

end Sys2Proof.Machine
end

section
/-! SUPPORT. The other invariants of every step: the parameters, the result registers (R148), the whole frame in TXBUF
(R80) and the order of the bytes handed over (R76, R194). -/

namespace Sys2Proof.Machine

/-- No event writes the parameters (R35, R36). -/
theorem Effect.params_eq {e : Event} {s t : State} (h : Effect s e t) : t.params = s.params := by
  cases h with
  | stored v _ _ =>
    obtain ⟨hparams, -⟩ := writeReg_frame s v ‹Reg›
    exact hparams
  | _ => rfl

@[simp] theorem State.takeEvent_params (s : State) : s.takeEvent.params = s.params := by
  unfold State.takeEvent
  split <;> rfl

/-- DEC_STATUS and the result registers are written by DECODE and by RESET (R148, R300). -/
theorem Effect.res_cases {e : Event} {s t : State} (h : Effect s e t) :
    (t.res = s.res ∧ t.decStatus = s.decStatus) ∨ t = performDecode (s.acceptOp 0x2) ∨ t = s.resetBlock := by
  cases h with
  | stored v _ _ =>
    obtain ⟨-, -, -, -, -, -, hres, -, -, hdec, -⟩ := writeReg_frame s v ‹Reg›
    exact .inl ⟨hres, hdec⟩
  | decode => exact .inr (.inl rfl)
  | reset => exact .inr (.inr rfl)
  | _ => exact .inl ⟨rfl, rfl⟩

/-- The validity of the result registers reads only them and DEC_STATUS. -/
theorem State.ResultsValid.congr {s t : State} (hres : t.res = s.res) (hdec : t.decStatus = s.decStatus)
    (h : s.ResultsValid) : t.ResultsValid := by
  unfold State.ResultsValid
  rw [hres, hdec]
  exact h

/-- A decode leaves values only for its own outcome (R148). -/
theorem performDecode_resultsValid {s : State} (hmax : s.params.maxData ≤ 248) :
    (performDecode s).ResultsValid := by
  have hout := decodeWindow_outcome s.decodeInput s.ckSeed s.params.maxData
  have htail := resultsOf_data_tail (off := s.decOff.toNat) hmax fun f => hout.fields_length (f := f)
  have hres : (performDecode s).res = resultsOf s.params.maxData s.decOff.toNat
    (decodeWindow s.decodeInput s.ckSeed s.params.maxData) := rfl
  have hdec : (performDecode s).decStatus = statusWord
    (decodeWindow s.decodeInput s.ckSeed s.params.maxData).code
    (decodeWindow s.decodeInput s.ckSeed s.params.maxData).detail.bits := rfl
  unfold State.ResultsValid
  rw [hres, hdec]
  generalize decodeWindow s.decodeInput s.ckSeed s.params.maxData = r at hout htail
  cases hout with
  | ok _ _ _ hsum =>
    dsimp only
    exact ⟨fun h => absurd h (by decide), fun h => absurd h (by decide), fun h => absurd h (by decide),
      fun _ => hsum.symm, fun h => absurd h (by decide), htail⟩
  | badSum _ _ _ hsum =>
    dsimp only
    exact ⟨fun _ h => absurd h (by decide), fun h => absurd h (by decide), fun h => absurd h (by decide),
      fun h => absurd h (by decide), fun _ => hsum.symm, htail⟩
  | noFooter _ =>
    dsimp only
    exact ⟨fun _ _ => ⟨rfl, rfl, rfl, rfl, rfl⟩, fun h => absurd h (by decide), fun _ => rfl, fun _ => rfl,
      fun h => absurd h (by decide), htail⟩
  | shortWindow | noHeader =>
    dsimp only
    exact ⟨fun _ _ => ⟨rfl, rfl, rfl, rfl, rfl⟩, fun _ => rfl, fun _ => rfl, fun _ => rfl,
      fun h => absurd h (by decide), htail⟩
  | runt _ _ | overlong _ _ =>
    dsimp only
    exact ⟨fun _ _ => ⟨rfl, rfl, rfl, rfl, rfl⟩, fun h => absurd h (by decide), fun h => absurd h (by decide),
      fun _ => rfl, fun h => absurd h (by decide), htail⟩

/-- After reset every result register is 0 (R50 to R57). -/
theorem resetOf_resultsValid (p : Params) : (State.resetOf p).ResultsValid :=
  ⟨fun _ _ => ⟨rfl, rfl, rfl, rfl, rfl⟩, fun _ => rfl, fun _ => rfl, fun _ => rfl,
    fun h => absurd h (by dsimp only [State.resetOf]; decide), fun _ hb => List.eq_of_mem_replicate hb⟩

theorem State.ResultsValid.effect {e : Event} {s t : State} (hinv : s.Inv) (h : s.ResultsValid)
    (he : Effect s e t) : t.ResultsValid := by
  rcases he.res_cases with ⟨hres, hdec⟩ | rfl | rfl
  · exact h.congr hres hdec
  · exact performDecode_resultsValid hinv.params_bounds.1
  · exact resetOf_resultsValid s.params

/-- The whole frame in TXBUF is a matter of TXBUF, TXLEN and MAX_DATA only. -/
theorem State.HoldsFrame.congr {s t : State} (hparams : t.params = s.params) (hbuf : t.txBuf = s.txBuf)
    (hlen : t.txLen = s.txLen) (h : s.HoldsFrame) : t.HoldsFrame := by
  unfold State.HoldsFrame
  rw [hparams, hbuf, hlen]
  exact h

/-- A built frame fills TXBUF[0..TXLEN-1] (R143). -/
theorem buildFrame_txBuf_take {s : State} (hinv : s.Inv) (hfits : s.encDlen.toNat ≤ s.params.maxData) :
    s.buildFrame.txBuf.take s.buildFrame.txLen.toNat =
      encodeFrame s.ckSeed s.encDest s.encCmd s.encodeData := by
  have hlen : (encodeFrame s.ckSeed s.encDest s.encCmd s.encodeData).length = s.buildFrame.txLen.toNat := by
    rw [encodeFrame_length, hinv.encodeData_length hfits, hinv.buildFrame_txLen hfits]
  rw [← hlen]
  exact List.take_left

theorem performEncode_holdsFrame {s : State} (hinv : s.Inv) : (performEncode s).HoldsFrame := by
  unfold performEncode
  split
  · exact fun hne => absurd rfl hne
  · next hlong =>
    have hfits := Nat.not_lt.1 hlong
    exact fun _ => ⟨_, _, _, _, (hinv.encodeData_length hfits).trans_le hfits, buildFrame_txBuf_take hinv hfits⟩

theorem State.HoldsFrame.effect {e : Event} {s t : State} (hinv : s.Inv) (h : s.HoldsFrame)
    (he : Effect s e t) : t.HoldsFrame := by
  rcases he.txBuf_cases with ⟨hbuf, hlen⟩ | ⟨-, -, rfl⟩ | ⟨-, rfl⟩
  · exact h.congr he.params_eq hbuf hlen
  · exact performEncode_holdsFrame (hinv.acceptOp 0x1)
  · exact fun hne => absurd rfl hne

/-- While the sequencer stays in TX an event leaves the frame alone, and hands over its next byte or none
(R76, R80, R194). -/
theorem Effect.wire_of_tx {e : Event} {s t : State} (h : Effect s e t) (hs : s.bt = .tx) (ht : t.bt = .tx) :
    t.txBuf = s.txBuf ∧ t.txLen = s.txLen ∧
    ((t.txIdx = s.txIdx ∧ t.wire = s.wire) ∨
      (s.txIdx.toNat < s.txLen.toNat ∧ t.txIdx = s.txIdx + 1 ∧
        t.wire = s.wire ++ [s.txBuf.getD s.txIdx.toNat 0])) := by
  cases h with
  | stored v _ _ =>
    obtain ⟨-, -, -, hbuf, hlen, hidx, -, -, -, -, -, -, -, -, -, -, -, hwire, -⟩ := writeReg_frame s v ‹Reg›
    exact ⟨hbuf, hlen, .inl ⟨hidx, hwire⟩⟩
  | accept _ hidx => exact ⟨rfl, rfl, .inr ⟨hidx, rfl, rfl⟩⟩
  | encodeFailed hbt _ | encodeBuilt hbt _ => rcases hbt with hbt | hbt <;> (rw [hs] at hbt; cases hbt)
  | transmitStart hbt _ _ _ | tickStart hbt _ _ => rw [hs] at hbt; cases hbt
  | reset => cases ht
  | _ => exact ⟨rfl, rfl, .inl ⟨rfl, rfl⟩⟩

/-- The event that enters TX starts at TX_IDX = 0 (R193). -/
theorem Effect.txIdx_of_start {e : Event} {s t : State} (h : Effect s e t) (hs : s.bt ≠ .tx)
    (ht : t.bt = .tx) : t.txIdx = 0 := by
  cases h with
  | transmitStart _ _ _ _ | tickStart _ _ _ => rfl
  | stored v _ _ =>
    obtain ⟨-, hbt, -⟩ := writeReg_frame s v ‹Reg›
    exact absurd (hbt ▸ ht) hs
  | transmitNoFrame _ _ | transmitBusBusy _ _ _ _ | transmitWait _ _ _ _ | listenOpen _ _ | listenEmpty _ _
  | cancelWait _ | cancelListen _ | tickBusBusy _ _ | tickClose _ _ | drain _ _ | reset => cases ht
  | _ => exact absurd ht hs

/-- The bytes before TX_IDX, once the one at TX_IDX has followed them. -/
theorem take_txIdx_succ {s : State} (hinv : s.Inv) (hidx : s.txIdx.toNat < s.txLen.toNat) :
    s.txBuf.take (s.txIdx + 1).toNat = s.txBuf.take s.txIdx.toNat ++ [s.txBuf.getD s.txIdx.toNat 0] := by
  obtain ⟨⟨-, -, htxBuf, -⟩, ⟨-, -, -, hlen, -⟩, -⟩ := hinv
  have hlt : s.txIdx.toNat < s.txBuf.length := by
    rw [htxBuf]
    rcases hlen with h0 | ⟨-, hle⟩
    · rw [h0] at hidx; exact absurd hidx (Nat.not_lt_zero _)
    · omega
  rw [State.Inv.txIdx_succ hidx, List.take_succ_eq_append_getElem hlt, List.getD_eq_getElem _ _ hlt]

/-- What an event in TX adds to the bytes handed over it adds to TXBUF[0..TX_IDX-1] (R194). -/
theorem Effect.wire_append {e : Event} {s t : State} (hinv : s.Inv) (h : Effect s e t) (hs : s.bt = .tx)
    (ht : t.bt = .tx) : ∃ bs, t.wire = s.wire ++ bs ∧
      t.txBuf.take t.txIdx.toNat = s.txBuf.take s.txIdx.toNat ++ bs := by
  obtain ⟨hbuf, -, ⟨hidx, hwire⟩ | ⟨hlt, hidx, hwire⟩⟩ := h.wire_of_tx hs ht
  · exact ⟨[], by rw [hwire, List.append_nil], by rw [hbuf, hidx, List.append_nil]⟩
  · exact ⟨_, hwire, by rw [hbuf, hidx, take_txIdx_succ hinv hlt]⟩

theorem State.WireInOrder.effect {e : Event} {s t : State} (hinv : s.Inv) (h : s.WireInOrder)
    (he : Effect s e t) : t.WireInOrder := by
  intro ht
  by_cases hs : s.bt = .tx
  · obtain ⟨bs, hwire, htake⟩ := he.wire_append hinv hs ht
    obtain ⟨before, hbefore⟩ := h hs
    exact ⟨before, by rw [hwire, htake, ← List.append_assoc, hbefore]⟩
  · rw [he.txIdx_of_start hs ht]
    exact List.nil_suffix

/-- Along a run in TX the frame stays, and the bytes handed over are those that TX_IDX has passed (R76, R194). -/
theorem runIn_tx_wire {s t : State} {es : List Event} (hrun : RunIn (fun x => x.bt = .tx) s es t)
    (hinv : s.Inv) : t.txBuf = s.txBuf ∧ t.txLen = s.txLen ∧
      ∃ bs, t.wire = s.wire ++ bs ∧ t.txBuf.take t.txIdx.toNat = s.txBuf.take s.txIdx.toNat ++ bs := by
  induction hrun with
  | done _ => exact ⟨rfl, rfl, [], (List.append_nil _).symm, (List.append_nil _).symm⟩
  | @more s u t e es hs hstep hrest ih =>
    have hu : u.bt = .tx := hrest.first
    have heffect := runEvent_effect hstep
    obtain ⟨hbuf, hlen, -⟩ := heffect.wire_of_tx hs hu
    obtain ⟨bs, hwire, htake⟩ := heffect.wire_append hinv hs hu
    obtain ⟨hbuf', hlen', cs, hwire', htake'⟩ := ih (hinv.effect heffect)
    exact ⟨hbuf'.trans hbuf, hlen'.trans hlen, bs ++ cs, by rw [hwire', hwire, List.append_assoc],
      by rw [htake', htake, List.append_assoc]⟩

end Sys2Proof.Machine
end

section
/-! The obligations on what every step and every transmission keeps. -/

namespace Sys2Proof.Proofs
open Sys2Proof.Machine

/-- Settles O8: every event keeps the invariant, which does not speak of the events to come. -/
theorem stepKeepsInvariant : Obligations.StepKeepsInvariant := by
  unfold Obligations.StepKeepsInvariant
  exact fun s t hinv h => hinv.takeEvent.effect (runEvent_effect h)

/-- Settles O9: only DECODE and RESET write DEC_STATUS and the result registers. -/
theorem stepKeepsResultsValid : Obligations.StepKeepsResultsValid := by
  unfold Obligations.StepKeepsResultsValid
  intro s t hinv hvalid h
  refine State.ResultsValid.effect hinv.takeEvent ?_ (runEvent_effect h)
  unfold State.takeEvent
  split <;> exact hvalid

/-- Settles O10: only ENCODE and RESET write TXBUF and TXLEN. -/
theorem stepKeepsWholeFrame : Obligations.StepKeepsWholeFrame := by
  unfold Obligations.StepKeepsWholeFrame
  intro s t hinv hframe h
  refine State.HoldsFrame.effect hinv.takeEvent ?_ (runEvent_effect h)
  unfold State.takeEvent
  split <;> exact hframe

/-- Settles O11: an event in TX hands over the byte at TX_IDX and advances it, or does neither. -/
theorem stepKeepsWireOrder : Obligations.StepKeepsWireOrder := by
  unfold Obligations.StepKeepsWireOrder
  intro s t hinv horder h
  refine State.WireInOrder.effect hinv.takeEvent ?_ (runEvent_effect h)
  unfold State.takeEvent
  split <;> exact horder

/-- Settles O50: at the drain TX_IDX has passed the whole frame. -/
theorem transmissionSendsWholeFrame : Obligations.TransmissionSendsWholeFrame := by
  unfold Obligations.TransmissionSendsWholeFrame
  intro s t u es hinv hstart hrun hdrain hleft
  have ht : t.bt = .tx := hrun.last
  obtain ⟨hbuf, hlen, bs, hwire, htake⟩ := runIn_tx_wire hrun hinv
  have hzero : s.txBuf.take s.txIdx.toNat = [] := by rw [hstart]; rfl
  cases runEvent_effect hdrain with
  | drainNone _ => exact absurd ht hleft
  | drain _ hidx =>
    rw [hidx, hbuf, hlen, hzero, List.nil_append] at htake
    exact ⟨by rw [htake]; exact hwire, rfl, rfl, rfl⟩

/-- Settles O12. -/
theorem parametersNeverChange : Obligations.ParametersNeverChange := by
  unfold Obligations.ParametersNeverChange
  exact fun s t h => (runEvent_effect h).params_eq.trans s.takeEvent_params

/-- Settles O7: the reset values are those of the invariants, for all legal parameters and so for R8's own. -/
theorem resetMeetsInvariants : Obligations.ResetMeetsInvariants := by
  unfold Obligations.ResetMeetsInvariants
  exact ⟨State.Inv.resetOf (by decide), fun p hp =>
    ⟨State.Inv.resetOf hp, resetOf_resultsValid p, fun hne => absurd rfl hne, nofun⟩⟩

/-- Settles O5. -/
theorem everyStepHasNextState : Obligations.EveryStepHasNextState := by
  unfold Obligations.EveryStepHasNextState
  exact fun s => runEvent_next s.nextEvent s.takeEvent

end Sys2Proof.Proofs
end

section
/-! SUPPORT. DecodeWindow on a framed candidate payload (R150, R155), and what the check of R151 reads from a window. -/

namespace Sys2Proof.Machine

/-- In a transparent payload followed by a footer the first footer is that one: neither a pair inside the payload nor
its last byte with the footer's first makes one (R109, R150). -/
theorem findPair_footer_of_transparent {p : List Byte} (hp : Transparent p) (more : List Byte) :
    findPair markByte footerByte (p ++ markByte :: footerByte :: more) = some p.length := by
  refine findPair_eq_some.2 ⟨Nat.zero_le _, by simp, by simp, fun j _ hj hpair => ?_⟩
  obtain ⟨hmark, hfooter⟩ := hpair
  by_cases hinside : j + 1 < p.length
  · rw [List.getElem?_append_left hj] at hmark
    rw [List.getElem?_append_left hinside] at hfooter
    exact hp j (Nat.zero_le _) ⟨hmark, hfooter⟩
  · have hlast : j + 1 = p.length := by omega
    rw [hlast, List.getElem?_append_right le_rfl, Nat.sub_self] at hfooter
    exact absurd (Option.some.inj hfooter) (by decide)

/-- The header of a frame is found at 0, and the search for the footer begins at the payload (R149, R150). -/
theorem decodeWindow_framed {rest : List Byte} {len : Nat} (seed : Byte) (maxd : Nat) (h5 : 5 ≤ rest.length)
    (hfoot : findPair markByte footerByte rest = some len) :
    decodeWindow (markByte :: headerByte :: rest) seed maxd = closeFrame seed maxd 0 (rest.take len) :=
  decodeWindow_eq_closeFrame seed maxd (Nat.add_le_add_right h5 2) rfl hfoot

/-- A frame and what follows it: header, candidate payload, footer. -/
theorem encodeFrame_append (seed dest cmd : Byte) (data more : List Byte) :
    encodeFrame seed dest cmd data ++ more =
      markByte :: headerByte :: (payload seed dest cmd data ++ markByte :: footerByte :: more) := by
  simp [encodeFrame_eq_payload]

/-- The check of a frame's own payload finds its fields, and both checksums agree (R151, R152). -/
theorem payloadFields_payload (seed dest cmd : Byte) (data : List Byte) :
    payloadFields seed (payload seed dest cmd data) =
      ⟨dest, cmd, data, checksum seed dest cmd data, checksum seed dest cmd data⟩ := by
  have hdata : ((payload seed dest cmd data).drop 2).take ((payload seed dest cmd data).length - 3) = data := by
    rw [payload_length, Nat.add_sub_cancel]
    exact List.take_left
  have hrck : (payloadFields seed (payload seed dest cmd data)).rck = checksum seed dest cmd data :=
    payloadFields_rck seed ([dest, cmd] ++ data) _
  have hcalc : (payloadFields seed (payload seed dest cmd data)).calcSum = checksum seed dest cmd data :=
    congrArg (checksum seed dest cmd) hdata
  calc payloadFields seed (payload seed dest cmd data)
      = ⟨dest, cmd, ((payload seed dest cmd data).drop 2).take ((payload seed dest cmd data).length - 3),
          (payloadFields seed (payload seed dest cmd data)).rck,
          (payloadFields seed (payload seed dest cmd data)).calcSum⟩ := rfl
    _ = _ := by rw [hdata, hrck, hcalc]

/-- R155 on a window: a transparent frame decodes to itself, whatever follows it. -/
theorem decodeWindow_encodeFrame (seed dest cmd : Byte) {data : List Byte} {maxd : Nat}
    (hmax : data.length ≤ maxd) (hp : Transparent (payload seed dest cmd data)) (more : List Byte) :
    decodeWindow (encodeFrame seed dest cmd data ++ more) seed maxd =
      ⟨.ok, .noDetail, some 0, some (data.length + 7),
        some ⟨dest, cmd, data, checksum seed dest cmd data, checksum seed dest cmd data⟩⟩ := by
  rw [encodeFrame_append, decodeWindow_framed seed maxd (by simp; omega) (findPair_footer_of_transparent hp more),
    List.take_left]
  rcases closeFrame_cases seed maxd 0 (payload seed dest cmd data) with
    ⟨hshort, -⟩ | ⟨-, hlong, -⟩ | ⟨-, -, -, he⟩ | ⟨-, -, hne, -⟩
  · rw [payload_length] at hshort; omega
  · rw [payload_length] at hlong; omega
  · rw [he, payload_length, payloadFields_payload, show 0 + 2 + (data.length + 3) + 2 = data.length + 7 by omega]
  · rw [payloadFields_payload] at hne; exact absurd rfl hne

/-- R155, second part: the first inner footer ends the decode of a frame that is not transparent. -/
theorem decodeWindow_encodeFrame_of_inner {seed dest cmd : Byte} {data : List Byte} {j : Nat} (maxd : Nat)
    (hj : FirstPairAt markByte footerByte (payload seed dest cmd data) 0 j) :
    decodeWindow (encodeFrame seed dest cmd data) seed maxd =
      closeFrame seed maxd 0 ((payload seed dest cmd data).take j) := by
  have hlen := hj.succ_lt_length
  rw [← List.append_nil (encodeFrame seed dest cmd data), encodeFrame_append,
    decodeWindow_framed seed maxd (by simp) (findPair_eq_some.2 (hj.append _)),
    List.take_append_of_le_length (by omega)]

/-- The candidate payload of `n` bytes from index `k` of a window, field by field (R151). -/
theorem payloadFields_window (seed : Byte) {win : List Byte} {k n : Nat} (h3 : 3 ≤ n) (hn : k + n ≤ win.length) :
    ∃ dest cmd rck, win[k]? = some dest ∧ win[k + 1]? = some cmd ∧ win[k + n - 1]? = some rck ∧
      payloadFields seed ((win.drop k).take n) = ⟨dest, cmd, (win.drop (k + 2)).take (n - 3), rck,
        checksum seed dest cmd ((win.drop (k + 2)).take (n - 3))⟩ := by
  have hlen : ((win.drop k).take n).length = n := by rw [List.length_take, List.length_drop]; omega
  have hbyte (i : Nat) (hi : i < n) : ((win.drop k).take n).getD i 0 = win[k + i]'(by omega) := by
    rw [List.getD_eq_getElem _ _ (by omega)]
    simp
  have hdata : (((win.drop k).take n).drop 2).take (n - 3) = (win.drop (k + 2)).take (n - 3) := by
    rw [List.drop_take, List.take_take, List.drop_drop, Nat.min_eq_left (by omega)]
  refine ⟨win[k]'(by omega), win[k + 1]'(by omega), win[k + n - 1]'(by omega), List.getElem?_eq_getElem _,
    List.getElem?_eq_getElem _, List.getElem?_eq_getElem _, ?_⟩
  simp only [payloadFields, hlen, hdata, hbyte 0 (by omega), hbyte 1 (by omega), hbyte (n - 1) (by omega),
    Nat.add_zero, show k + (n - 1) = k + n - 1 by omega]

/-- DecodeWindow where a header and a footer are found, by their positions (R149 to R151). -/
theorem decodeWindow_of_pairs {win : List Byte} {h f : Nat} (seed : Byte) (maxd : Nat) (h7 : 7 ≤ win.length)
    (hhead : FirstPairAt markByte headerByte win 0 h) (hfoot : FirstPairAt markByte footerByte win (h + 2) f) :
    ((win.drop (h + 2)).take (f - (h + 2))).length = f - (h + 2) ∧
    decodeWindow win seed maxd = closeFrame seed maxd h ((win.drop (h + 2)).take (f - (h + 2))) := by
  have hlt := hfoot.succ_lt_length
  obtain ⟨-, hdrop⟩ := firstPairAt_drop.1 hfoot
  refine ⟨?_, decodeWindow_eq_closeFrame seed maxd h7 (findPair_eq_some.2 hhead) (findPair_eq_some.2 hdrop)⟩
  rw [List.length_take, List.length_drop]
  omega

/-- DECODE's window has `max(0, RXCNT - DEC_OFF)` bytes (R147). -/
theorem State.Inv.decodeInput_length {s : State} (h : s.Inv) :
    s.decodeInput.length = s.rxCnt.toNat - s.decOff.toNat := by
  obtain ⟨⟨-, -, -, hrxBuf, -⟩, ⟨-, -, hcnt, -⟩, -⟩ := h
  rw [State.decodeInput, List.length_drop, List.length_take_of_le (by rw [hrxBuf]; exact hcnt)]

end Sys2Proof.Machine
end

section
/-! The obligations of 40_frame_codec on ENCODE, DECODE and the round trip. -/

namespace Sys2Proof.Proofs
open Sys2Proof.Machine

/-- Settles O34: the round trip with nothing after the frame. -/
theorem transparentFrameRoundTrips : Obligations.TransparentFrameRoundTrips := by
  unfold Obligations.TransparentFrameRoundTrips
  intro seed dest cmd data maxd hmax hp
  have hround := decodeWindow_encodeFrame seed dest cmd hmax hp []
  rwa [List.append_nil] at hround

/-- Settles O35: the check of the bytes before the inner footer; were they a whole payload, it has fewer data bytes
than the frame. -/
theorem nonTransparentFrameNeverRoundTrips : Obligations.NonTransparentFrameNeverRoundTrips := by
  unfold Obligations.NonTransparentFrameNeverRoundTrips
  intro seed dest cmd data maxd hmax j hj
  have hlt := hj.succ_lt_length
  rw [payload_length] at hlt
  have hlen : ((payload seed dest cmd data).take j).length = j :=
    List.length_take_of_le (by rw [payload_length]; omega)
  have hdata := payloadFields_data_length_le seed ((payload seed dest cmd data).take j)
  rw [decodeWindow_encodeFrame_of_inner maxd hj]
  obtain ⟨hstart, hstop⟩ := closeFrame_start_stop seed maxd 0 ((payload seed dest cmd data).take j)
  refine ⟨hstart, by rw [hstop, hlen, Nat.zero_add], ?_⟩
  rcases closeFrame_cases seed maxd 0 ((payload seed dest cmd data).take j) with
    ⟨-, he⟩ | ⟨-, hlong, -⟩ | ⟨h3, -, -, he⟩ | ⟨-, -, -, he⟩
  · exact .inl (by rw [he])
  · omega
  · exact .inr (.inr ⟨by rw [he], _, by rw [he], by omega⟩)
  · exact .inr (.inl (by rw [he]))

/-- Settles O38: the decoder's round trip, written into the result registers at DEC_OFF. -/
theorem decodeReadsEncodedFrame : Obligations.DecodeReadsEncodedFrame := by
  unfold Obligations.DecodeReadsEncodedFrame
  intro s dest cmd data more _ hmax hp hwin
  have hdecode := decodeWindow_encodeFrame s.ckSeed dest cmd hmax hp more
  rw [← hwin] at hdecode
  have hperform : performDecode (s.acceptOp 0x2) = { s.acceptOp 0x2 with
      decStatus := statusWord (decodeWindow s.decodeInput s.ckSeed s.params.maxData).code
        (decodeWindow s.decodeInput s.ckSeed s.params.maxData).detail.bits
      res := resultsOf s.params.maxData s.decOff.toNat
        (decodeWindow s.decodeInput s.ckSeed s.params.maxData) } := rfl
  have hstart : resultIndex s.decOff.toNat (some 0) = s.decOff := by
    rw [resultIndex, Nat.add_zero, BitVec.ofNat_toNat, BitVec.setWidth_eq]
  have hstop : resultIndex s.decOff.toNat (some (data.length + 7)) =
      s.decOff + BitVec.ofNat 16 (data.length + 7) := by
    rw [resultIndex, BitVec.ofNat_add, BitVec.ofNat_toNat, BitVec.setWidth_eq]
  have hdec : statusWord .ok Detail.noDetail.bits = 0x0001 := rfl
  have hop : statusWord .ok 0x2 = 0x0021 := rfl
  rw [exec_decode, hperform, hdecode, resultsOf, hstart, hstop]
  simp only [hdec, State.acceptOp, hop]
  rfl

/-- Settles O32: the two searches decide the first three answers; the bytes between header and footer the others. -/
theorem decodeWindowOutcomes : Obligations.DecodeWindowOutcomes := by
  unfold Obligations.DecodeWindowOutcomes
  intro win seed maxd
  refine ⟨fun hshort => ?short, fun h7 hno => ?noHeader, fun h h7 hhead hno => ?noFooter,
    fun h f h7 hhead hfoot => ?closed⟩
  case short => exact if_pos hshort
  case noHeader =>
    have hnone : findPair markByte headerByte win = none := findPair_eq_none.2 hno
    simp only [decodeWindow, if_neg (Nat.not_lt.2 h7), hnone]
  case noFooter =>
    have hsome : findPair markByte headerByte win = some h := findPair_eq_some.2 hhead
    have hnone : findPair markByte footerByte (win.drop (h + 2)) = none :=
      findPair_eq_none.2 (noPairFrom_drop.1 hno)
    simp only [decodeWindow, if_neg (Nat.not_lt.2 h7), hsome, hnone]
  case closed =>
    obtain ⟨hlen, hdecode⟩ := decodeWindow_of_pairs seed maxd h7 hhead hfoot
    have hlt := hfoot.succ_lt_length
    obtain ⟨hle, -⟩ := hfoot
    have hstop : h + 2 + (f - (h + 2)) + 2 = f + 2 := by omega
    rw [hdecode]
    have hcases := closeFrame_cases seed maxd h ((win.drop (h + 2)).take (f - (h + 2)))
    rw [hlen, hstop] at hcases
    rcases hcases with ⟨hshort, he⟩ | ⟨hmin, hlong, he⟩ | ⟨hmin, hfits, hsum, he⟩ | ⟨hmin, hfits, hsum, he⟩
    · exact ⟨fun _ => he, fun _ => by omega, fun _ => by omega⟩
    · exact ⟨fun _ => by omega, fun _ => he, fun _ _ => by omega⟩
    all_goals
      refine ⟨fun _ => by omega, fun _ => by omega, fun _ _ => ?_⟩
      obtain ⟨dest, cmd, rck, hdest, hcmd, hrck, hfields⟩ :=
        payloadFields_window seed (win := win) (k := h + 2) (n := f - (h + 2)) hmin (by omega)
      rw [show h + 2 + (f - (h + 2)) - 1 = f - 1 by omega] at hrck
      rw [show h + 2 + 2 = h + 4 by omega, show f - (h + 2) - 3 = f - h - 5 by omega] at hfields
      rw [hfields] at hsum he
      dsimp only at hsum
      refine ⟨dest, cmd, rck, hdest, hcmd, hrck, ?_⟩
    · exact .inl ⟨hsum, by rw [he, hsum]⟩
    · exact .inr ⟨hsum, he⟩

/-- Settles O31: the window is RXBUF cut at RXCNT, from DEC_OFF on. -/
theorem decodeWindowIsBufferSlice : Obligations.DecodeWindowIsBufferSlice := by
  unfold Obligations.DecodeWindowIsBufferSlice
  intro s hinv
  refine ⟨hinv.decodeInput_length, fun i hi => ?_⟩
  rw [State.decodeInput, List.getElem?_drop, List.getElem?_take_of_lt hi]

/-- Settles O33: DECODE is accepted in every state, and its indices and lengths fit their registers. -/
theorem decodeWritesResults : Obligations.DecodeWritesResults := by
  unfold Obligations.DecodeWritesResults
  intro s r hinv hr
  have hout : DecodeOutcome s.params.maxData s.decodeInput.length r := hr ▸ decodeWindow_outcome _ _ _
  rw [hinv.decodeInput_length] at hout
  have hlt := s.rxCnt.isLt
  obtain ⟨hmax, -⟩ := hinv.params_bounds
  have hfields := fun f => hout.fields_length (f := f)
  have hdlen := resultsOf_dlen_toNat (off := s.decOff.toNat) hmax hfields
  have htail := resultsOf_data_tail (off := s.decOff.toNat) hmax hfields
  have hdata := resultsOf_data (maxd := s.params.maxData) (off := s.decOff.toNat) (r := r)
  have hperform : performDecode (s.acceptOp 0x2) = { s.acceptOp 0x2 with
      decStatus := statusWord r.code r.detail.bits
      res := resultsOf s.params.maxData s.decOff.toNat r } := by rw [hr]; rfl
  refine ⟨_, exec_decode s, ?_⟩
  rw [hperform]
  refine ⟨rfl, statusWord_toNat _ _, ?start, ?stop, resultsOf_data_length hfields, ?fields⟩
  case start =>
    cases hs : r.start with
    | none => simp only [resultsOf, hs]; rfl
    | some h =>
      have hbound := hout.start_lt hs
      simp only [resultsOf, hs, resultIndex]
      exact toNat_ofNat_of_lt (by omega)
  case stop =>
    cases hs : r.stop with
    | none => simp only [resultsOf, hs]; rfl
    | some f =>
      have hbound := hout.stop_le hs
      simp only [resultsOf, hs, resultIndex]
      exact toNat_ofNat_of_lt (by omega)
  case fields =>
    cases hf : r.fields with
    | none =>
      rw [hdlen, hf] at htail
      simp only [resultsOf, hf] at htail ⊢
      exact ⟨rfl, rfl, rfl, rfl, rfl, htail⟩
    | some f =>
      rw [hdlen, hf] at htail
      rw [hf] at hdlen hdata
      refine ⟨?_, ?_, hdlen, ?_, ?_, ?_, htail⟩
      case refine_5 => rw [hdata]; exact List.take_left
      all_goals simp only [resultsOf, hf]; rfl

/-- Settles O29: the ENCODE is accepted and fits, so it builds the frame over the first bytes of TXBUF. -/
theorem encodeBuildsFrame : Obligations.EncodeBuildsFrame := by
  unfold Obligations.EncodeBuildsFrame
  intro s hinv hbt hfits
  have hperform : performEncode (s.acceptOp 0x1) = (s.acceptOp 0x1).buildFrame := if_neg (Nat.not_lt.2 hfits)
  have hdata : s.encodeData = s.encData.take s.encDlen.toNat := rfl
  have hlen : (encodeFrame s.ckSeed s.encDest s.encCmd s.encodeData).length = s.encDlen.toNat + 7 := by
    rw [encodeFrame_length, hinv.encodeData_length hfits]
  have hbuf : (s.acceptOp 0x1).buildFrame.txBuf = encodeFrame s.ckSeed s.encDest s.encCmd s.encodeData ++
      s.txBuf.drop (encodeFrame s.ckSeed s.encDest s.encCmd s.encodeData).length := rfl
  have henc : (s.acceptOp 0x1).buildFrame.encStatus = statusWord .ok
      (flagField (notTransparent (payload s.ckSeed s.encDest s.encCmd s.encodeData))) := rfl
  refine ⟨_, exec_encode_accepted hbt, ?_⟩
  rw [hperform]
  refine ⟨rfl, (hinv.acceptOp 0x1).buildFrame_txLen hfits, fun i hi => ?frame, fun i hi => ?above,
    fun hp => ?transparent, fun hp => ?warn⟩
  case frame => rw [hbuf, List.getElem?_append_left (by omega)]; rfl
  case above =>
    rw [hbuf, List.getElem?_append_right (by omega), List.getElem?_drop, Nat.add_sub_of_le (by omega)]
  case transparent => rw [henc, hdata, notTransparent_eq_false.2 hp]; rfl
  case warn => rw [henc, hdata, Bool.eq_true_of_not_eq_false (mt notTransparent_eq_false.1 hp)]; rfl

end Sys2Proof.Proofs
end

section
/-! SUPPORT. The decoder's answers by the value of the word (R101, R102), a step whose next event is known (log 2), and
the events' blindness to what is still to come (R81). -/

namespace Sys2Proof.Machine

/-- Reserved bits are the first test (R102). -/
theorem decodeCmd16_reservedBits {v : Word} (h : 16 ≤ v.toNat) : decodeCmd16 v = .error (.reservedBits v) :=
  if_pos fun h0 => Nat.not_lt.2 h (rsvField_eq_zero.1 h0)

/-- With RSV = 0 a value that is no instruction is a reserved operation (R102). -/
theorem decodeCmd16_of_lt_sixteen {v : Word} (h : v.toNat < 16) :
    (∃ i, decodeCmd16 v = .ok i) ∨ decodeCmd16 v = .error (.reservedOperation v) := by
  have hrsv : rsvField v = 0 := rsvField_eq_zero.2 h
  unfold decodeCmd16
  rw [if_neg (not_not.2 hrsv)]
  split_ifs <;> first | exact .inl ⟨_, rfl⟩ | exact .inr rfl

/-- The values below 6 are the operation codes (R101). -/
theorem exists_decodeCmd16_ok {v : Word} (h : v.toNat < 6) : ∃ i, decodeCmd16 v = .ok i := by
  obtain ⟨k, rfl⟩ : ∃ k : Fin 6, v = BitVec.ofNat 16 k := ⟨⟨v.toNat, h⟩, by simp⟩
  fin_cases k <;> exact ⟨_, rfl⟩

/-- The step when the next event is pending (log 2). -/
theorem step_of_pending {s : State} {e : Event} {rest : List Event} (h : s.pending = e :: rest) :
    step s = runEvent e { s with pending := rest } := by
  simp [step, State.nextEvent, State.takeEvent, h]

/-- The host write of an instruction's word is that instruction. -/
theorem hostWrite_of_hostInstr {a : Addr} {v : Word} {i : Instr} (h : hostInstr a v = some i) (s : State) :
    hostWrite a v s = exec i s := by
  rw [hostWrite, h]

/-- The step after `withFetchWord` is the host write of the word (log 7). -/
theorem step_withFetchWord (s : State) (nbits w : Nat) :
    step (s.withFetchWord nbits w) = runEvent (tableWordEvent nbits w) s :=
  step_of_pending rfl

/-- A table word that decodes has one of the two formats and fits in it (R100, R110). -/
theorem decodeTableWord_some {nbits w : Nat} {i : Instr} (h : decodeTableWord nbits w = some i) :
    (nbits = 16 ∧ decodeCmd16 (BitVec.ofNat 16 w) = .ok i) ∨
    (nbits = 8 ∧ w < 256 ∧ decodeFrameCmd8 (BitVec.ofNat 8 w) = .ok i) := by
  unfold decodeTableWord decodeBits formatWord at h
  split at h
  next j hj =>
    cases h
    split_ifs at hj with h16 h8
    · exact .inl ⟨h16.1, hj⟩
    · exact .inr ⟨h8.1, h8.2, hj⟩
  next => cases h

/-- `s` with other events to come and another counter of free events (log 2, log 3). -/
def State.withFuture (s : State) (p : List Event) (n : Nat) : State := { s with pending := p, freeIdx := n }

/-- `f` neither reads nor writes what is still to come. -/
def KeepsFuture (f : State → State) : Prop :=
  ∀ s p n, f (s.withFuture p n) = (f s).withFuture p n

namespace KeepsFuture

theorem comp {f g : State → State} (hg : KeepsFuture g) (hf : KeepsFuture f) : KeepsFuture fun s => g (f s) :=
  fun s p n => (congrArg g (hf s p n)).trans (hg (f s) p n)

/-- A branch on a test that does not read ahead. -/
theorem ite {c : State → Prop} [DecidablePred c] (hc : ∀ s p n, c (s.withFuture p n) ↔ c s) {f g : State → State}
    (hf : KeepsFuture f) (hg : KeepsFuture g) : KeepsFuture fun s => if c s then f s else g s := by
  intro s p n
  by_cases h : c s
  · simp only [if_pos h, if_pos ((hc s p n).2 h), hf s p n]
  · simp only [if_neg h, if_neg (mt (hc s p n).1 h), hg s p n]

theorem id : KeepsFuture fun s => s := fun _ _ _ => rfl

theorem acceptOp (op : BitVec 4) : KeepsFuture (·.acceptOp op) := fun _ _ _ => rfl

theorem refuseOp (c : Code) (op : BitVec 4) : KeepsFuture (·.refuseOp c op) := fun _ _ _ => rfl

theorem completeTx (c : Code) : KeepsFuture (·.completeTx c) := fun _ _ _ => rfl

theorem evalWait : KeepsFuture State.evalWait :=
  .ite (c := fun s => s.bt = .wait) (fun _ _ _ => Iff.rfl)
    (.ite (c := fun s => (s.lineQuiet && s.ifdMet) = true) (fun _ _ _ => Iff.rfl) (fun _ _ _ => rfl)
      (.ite (c := fun s => s.busyWaitMs ≤ s.btTimer) (fun _ _ _ => Iff.rfl) (completeTx .busBusy) id))
    id

theorem evalListen : KeepsFuture State.evalListen :=
  .ite (c := fun s => s.bt = .listen ∧ s.listenMs ≤ s.btTimer) (fun _ _ _ => Iff.rfl) (fun _ _ _ => rfl) id

theorem performEncode : KeepsFuture performEncode :=
  .ite (c := fun s => s.params.maxData < s.encDlen.toNat) (fun _ _ _ => Iff.rfl) (fun _ _ _ => rfl)
    (fun _ _ _ => rfl)

theorem performTransmit : KeepsFuture performTransmit :=
  .ite (c := fun s => s.txLen = 0) (fun _ _ _ => Iff.rfl) (completeTx .invalidPayload)
    (evalWait.comp (f := State.enterWait) fun _ _ _ => rfl)

theorem performListen : KeepsFuture performListen := evalListen.comp (f := State.enterListen) fun _ _ _ => rfl

theorem performCancel : KeepsFuture performCancel := by
  intro s p n
  unfold Machine.performCancel
  cases hbt : s.bt <;> simp only [State.withFuture, hbt] <;> rfl

theorem tickEvent : KeepsFuture State.tickEvent :=
  evalListen.comp (evalWait.comp (f := State.advanceCounters) fun _ _ _ => rfl)

theorem rxEvent (b : Byte) : KeepsFuture (·.rxEvent b) :=
  .ite (c := fun s => s.te = true) (fun _ _ _ => Iff.rfl) id
    (.ite (c := fun s => s.bt = .listen) (fun _ _ _ => Iff.rfl)
      (.ite (c := fun s => s.rxCnt.toNat < s.params.rxbufLen) (fun _ _ _ => Iff.rfl) (fun _ _ _ => rfl)
        (fun _ _ _ => rfl))
      (fun _ _ _ => rfl))

theorem txAcceptEvent : KeepsFuture State.txAcceptEvent :=
  .ite (c := fun s => s.txOffered = true) (fun _ _ _ => Iff.rfl) (fun _ _ _ => rfl) id

theorem txDrainEvent : KeepsFuture State.txDrainEvent :=
  .ite (c := fun s => s.txDrained = true) (fun _ _ _ => Iff.rfl) (fun _ _ _ => rfl) id

theorem writeReg (v : Word) (r : Reg) : KeepsFuture (writeReg · v r) := by
  cases r with
  | rxCnt | rxBuf i =>
    exact .ite (c := fun s => s.bt = .listen) (fun _ _ _ => Iff.rfl) id (fun _ _ _ => rfl)
  | _ => exact fun _ _ _ => rfl

theorem hostStore (a : Addr) (v : Word) : KeepsFuture (·.hostStore a v) := by
  intro s p n
  have hparams : (s.withFuture p n).params = s.params := rfl
  cases hr : regAt s.params a with
  | none => simp only [State.hostStore, hparams, hr]
  | some r => simp only [State.hostStore, hparams, hr]; exact writeReg v r s p n

theorem hostPlainWrite (a : Addr) (v : Word) : KeepsFuture (·.hostPlainWrite a v) :=
  .ite (c := fun _ => a = 0x000#12) (fun _ _ _ => Iff.rfl) (refuseOp .illegalOp (opField v)) (hostStore a v)

/-- The value a host read returns does not depend on what is to come. -/
theorem hostValue_withFuture (s : State) (p : List Event) (n : Nat) (a : Addr) :
    hostValue (s.withFuture p n) a = hostValue s a := by
  have hparams : (s.withFuture p n).params = s.params := rfl
  cases hr : regAt s.params a with
  | none => simp only [hostValue, hparams, hr]
  | some r => simp only [hostValue, hparams, hr]; cases r <;> rfl

theorem hostRead (a : Addr) : KeepsFuture (·.hostRead a) := by
  intro s p n
  dsimp only [State.hostRead]
  rw [hostValue_withFuture]
  rfl

/-- Every instruction is a function of the state that does not read ahead. -/
theorem exec (i : Instr) : ∃ f, KeepsFuture f ∧ ∀ s, exec i s = .next (f s) := by
  cases i with
  | nop => exact ⟨_, acceptOp 0x0, exec_eq .nop⟩
  | encode =>
    exact ⟨_, .ite (c := fun s => s.bt = .wait ∨ s.bt = .tx) (fun _ _ _ => Iff.rfl) (refuseOp .busy 0x1)
      (performEncode.comp (acceptOp 0x1)), exec_eq .encode⟩
  | decode =>
    exact ⟨_, comp (g := performDecode) (fun _ _ _ => rfl) (acceptOp 0x2), exec_eq .decode⟩
  | transmit =>
    exact ⟨_, .ite (c := fun s => s.bt = .idle) (fun _ _ _ => Iff.rfl) (performTransmit.comp (acceptOp 0x3))
      (refuseOp .busy 0x3), exec_eq .transmit⟩
  | listen =>
    exact ⟨_, .ite (c := fun s => s.bt = .idle) (fun _ _ _ => Iff.rfl) (performListen.comp (acceptOp 0x4))
      (refuseOp .busy 0x4), exec_eq .listen⟩
  | cancel =>
    exact ⟨_, .ite (c := fun s => s.bt = .tx) (fun _ _ _ => Iff.rfl) (refuseOp .busy 0x5)
      (performCancel.comp (acceptOp 0x5)), exec_eq .cancel⟩
  | frameTakeover => exact ⟨_, fun _ _ _ => rfl, exec_eq .frameTakeover⟩
  | frameSetOutput => exact ⟨_, fun _ _ _ => rfl, exec_eq .frameSetOutput⟩
  | frameReadSalinity => exact ⟨_, fun _ _ _ => rfl, exec_eq .frameReadSalinity⟩
  | frameGetVersion => exact ⟨_, fun _ _ _ => rfl, exec_eq .frameGetVersion⟩
  | frameGetTemperature => exact ⟨_, fun _ _ _ => rfl, exec_eq .frameGetTemperature⟩

theorem hostWrite (a : Addr) (v : Word) : ∃ f, KeepsFuture f ∧ ∀ s, hostWrite a v s = .next (f s) := by
  cases hi : hostInstr a v with
  | none => exact ⟨_, hostPlainWrite a v, fun s => by rw [Machine.hostWrite, hi]⟩
  | some i =>
    obtain ⟨f, hf, hexec⟩ := exec i
    exact ⟨f, hf, fun s => (hostWrite_of_hostInstr hi s).trans (hexec s)⟩

/-- Every event is a function of the state that does not read ahead (R81). -/
theorem runEvent (e : Event) : ∃ f, KeepsFuture f ∧ ∀ s, runEvent e s = .next (f s) := by
  cases e with
  | hostRead a => exact ⟨_, hostRead a, fun _ => rfl⟩
  | hostWrite a v => exact hostWrite a v
  | tick => exact ⟨_, tickEvent, fun _ => rfl⟩
  | rx b => exact ⟨_, rxEvent b, fun _ => rfl⟩
  | txAccept => exact ⟨_, txAcceptEvent, fun _ => rfl⟩
  | txDrain => exact ⟨_, txDrainEvent, fun _ => rfl⟩
  | reset => exact ⟨State.resetBlock, fun _ _ _ => rfl, fun _ => rfl⟩

end KeepsFuture

end Sys2Proof.Machine
end

section
/-! The obligations of 30_encoding, and those on the step and its next event. -/

namespace Sys2Proof.Proofs
open Sys2Proof.Machine

/-- Settles O1: the two inversions of the decoder one way, each instruction's own word the other way. -/
theorem decodeInvertsEncode : Obligations.DecodeInvertsEncode := by
  unfold Obligations.DecodeInvertsEncode
  intro w i
  constructor
  · intro h
    cases w with
    | cmd16 v =>
      rcases decodeCmd16_ok h with ⟨rfl, rfl⟩ | ⟨rfl, rfl⟩ | ⟨rfl, rfl⟩ | ⟨rfl, rfl⟩ | ⟨rfl, rfl⟩ | ⟨rfl, rfl⟩ <;>
        rfl
    | frameCmd8 b =>
      rcases decodeFrameCmd8_ok h with ⟨rfl, rfl⟩ | ⟨rfl, rfl⟩ | ⟨rfl, rfl⟩ | ⟨rfl, rfl⟩ | ⟨rfl, rfl⟩ <;> rfl
  · rintro rfl
    cases i <;> rfl

/-- Settles O2: RSV is tested first; then the codes below 6 are instructions and no others. -/
theorem reservedCommandWordsRejected : Obligations.ReservedCommandWordsRejected := by
  unfold Obligations.ReservedCommandWordsRejected
  intro v
  refine ⟨decodeCmd16_reservedBits, fun h6 h16 => ?_, exists_decodeCmd16_ok⟩
  rcases decodeCmd16_of_lt_sixteen h16 with ⟨i, hok⟩ | herr
  · exact absurd (decodeCmd16_ok_toNat_lt hok) (Nat.not_lt.2 h6)
  · exact herr

/-- Settles O3: the words are read off the tables. -/
theorem tableWordsDecode : Obligations.TableWordsDecode := by
  unfold Obligations.TableWordsDecode
  decide

/-- Settles O4: the step takes the pending host write, and the write issues the instruction. -/
theorem stepRunsDecodedInstruction : Obligations.StepRunsDecodedInstruction := by
  unfold Obligations.StepRunsDecodedInstruction
  refine ⟨fun s i v rest hd hp => ?cmd, fun s i v rest hd hp => ?encCmd, fun s i nbits w hd => ?fetched⟩
  case cmd => exact (step_of_pending hp).trans (hostWrite_of_hostInstr (hostInstr_cmd hd) _)
  case encCmd => exact (step_of_pending hp).trans (hostWrite_of_hostInstr (hostInstr_encCmd hd) _)
  case fetched =>
    rw [step_withFetchWord]
    rcases decodeTableWord_some hd with ⟨rfl, hcmd⟩ | ⟨rfl, hlt, hframe⟩
    · exact hostWrite_of_hostInstr (hostInstr_cmd hcmd) s
    · have hbyte : (BitVec.ofNat 16 (w % 256)).setWidth 8 = BitVec.ofNat 8 w := by
        rw [Nat.mod_eq_of_lt hlt]
        exact BitVec.setWidth_ofNat_of_le (by decide) w
      exact hostWrite_of_hostInstr (hostInstr_encCmd (hbyte ▸ hframe)) s

/-- Settles O6: every event is a function that keeps the future apart. -/
theorem eventsDoNotReadAhead : Obligations.EventsDoNotReadAhead := by
  unfold Obligations.EventsDoNotReadAhead
  intro e s t p n h
  obtain ⟨f, hf, hrun⟩ := KeepsFuture.runEvent e
  rw [hrun] at h
  cases h
  exact (hrun _).trans (congrArg Host.Outcome.next (hf s p n))

/-- Settles O55, from the instruction's own lemma. -/
theorem everyEncodedWordIsDefined : Obligations.EveryEncodedWordIsDefined := by
  unfold Obligations.EveryEncodedWordIsDefined
  intro i
  cases i with
  | nop => exact Laws.EncodedWord.nop
  | encode => exact Laws.EncodedWord.encode
  | decode => exact Laws.EncodedWord.decode
  | transmit => exact Laws.EncodedWord.transmit
  | listen => exact Laws.EncodedWord.listen
  | cancel => exact Laws.EncodedWord.cancel
  | frameTakeover => exact Laws.EncodedWord.frameTakeover
  | frameSetOutput => exact Laws.EncodedWord.frameSetOutput
  | frameReadSalinity => exact Laws.EncodedWord.frameReadSalinity
  | frameGetVersion => exact Laws.EncodedWord.frameGetVersion
  | frameGetTemperature => exact Laws.EncodedWord.frameGetTemperature

end Sys2Proof.Proofs
end

section
/-! SUPPORT. Host reads and writes of a mapped register (R71 to R75): what a read returns, what a write stores, and
which registers read as before after it. -/

namespace Sys2Proof.Machine

/-- A host read of a mapped address is that register's view. -/
theorem hostValue_of_regAt {s : State} {a : Addr} {r : Reg} (h : regAt s.params a = some r) :
    hostValue s a = readReg s r := by
  rw [hostValue, h]

/-- A host write of a mapped address other than CMD is that register's write. -/
theorem runEvent_hostWrite {s : State} {a : Addr} {r : Reg} (ha : a ≠ 0x000#12) (h : regAt s.params a = some r)
    (v : Word) : runEvent (.hostWrite a v) s = .next (writeReg s v r) := by
  rw [runEvent, hostWrite_store ha, State.hostStore, h]

/-- An 8-bit register reads zero extended (R21). -/
theorem byte_setWidth_toNat (b : Byte) : (b.setWidth 16).toNat = b.toNat := by
  have := b.isLt
  rw [BitVec.toNat_setWidth]
  omega

/-- An 8-bit register stores `v[7:0]` and reads it zero extended (R21). -/
theorem word_setWidth_toNat (v : Word) : ((v.setWidth 8).setWidth 16).toNat = v.toNat % 256 := by
  rw [byte_setWidth_toNat, BitVec.toNat_setWidth]

/-- The registers of access type R in the map R71. -/
def Reg.ReadOnly : Reg → Prop
  | .opStatus | .status | .encStatus | .decStatus | .btStatus | .maxDataR | .rxbufLenR | .idleMs | .ifdElapsed
  | .btTimer | .txIdx | .txLen | .resDest | .resCmd | .resDlen | .resCk | .resCalc | .resStart | .resEnd
  | .txBuf _ | .resData _ => True
  | _ => False

/-- A host write of a read-only register stores nothing (R75). -/
theorem writeReg_of_readOnly {r : Reg} (h : r.ReadOnly) (s : State) (v : Word) : writeReg s v r = s := by
  cases r <;> first | rfl | cases h

/-- The registers of access type RW in the map R71, the receive buffer apart, which LISTEN closes to the host. -/
def Reg.ReadWrite : Reg → Prop
  | .irqEn | .listenMs | .busyWaitMs | .ckSeed | .encDest | .encCmd | .encDlen | .decOff | .encData _ => True
  | _ => False

/-- A host write of an RW register changes no other register's view. -/
theorem readReg_writeReg_ne {r r' : Reg} (h : r.ReadWrite) (hne : r' ≠ r) (s : State) (v : Word) :
    readReg (writeReg s v r) r' = readReg s r' := by
  cases r with
  | encData i =>
    cases r' with
    | encData j =>
      have hij : i ≠ j := fun h => hne (by rw [h])
      simp only [readReg, writeReg, List.getD_eq_getElem?_getD, List.getElem?_set_ne hij]
    | _ => rfl
  | irqEn | listenMs | busyWaitMs | ckSeed | encDest | encCmd | encDlen | decOff =>
    cases r' <;> first | rfl | exact absurd rfl hne
  | _ => cases h

/-- After a host write of an RW register its address reads what was stored, every other address what it read before
(R75). -/
theorem hostWrite_readBack {s : State} {a : Addr} {r : Reg} (ha : a ≠ 0x000#12) (hr : regAt s.params a = some r)
    (hrw : r.ReadWrite) (v : Word) : ∃ t, runEvent (.hostWrite a v) s = .next t ∧
      hostValue t a = readReg (writeReg s v r) r ∧ ∀ b, b ≠ a → hostValue t b = hostValue s b := by
  obtain ⟨hparams, -⟩ := writeReg_frame s v r
  refine ⟨_, runEvent_hostWrite ha hr v, hostValue_of_regAt (by rw [hparams]; exact hr), fun b hb => ?_⟩
  cases hr' : regAt s.params b with
  | none => rw [hostValue_of_regAt_none (by rw [hparams]; exact hr'), hostValue_of_regAt_none hr']
  | some r' =>
    have hne : r' ≠ r := by rintro rfl; exact hb (regAt_inj hr' hr)
    rw [hostValue_of_regAt (by rw [hparams]; exact hr'), hostValue_of_regAt hr', readReg_writeReg_ne hrw hne]

/-- The reset values of the map R71 by address: those that are not 0, and the parameters (R35, R36, R300). -/
def resetWord (p : Params) (a : Addr) : Word :=
  if a = 0x002#12 then 0x0010 else if a = 0x008#12 then 50 else if a = 0x009#12 then 50
  else if a = 0x00A#12 then 500 else if a = 0x00B#12 then 1000
  else if a = 0x00D#12 then BitVec.ofNat 16 p.maxData
  else if a = 0x00E#12 then BitVec.ofNat 16 p.rxbufLen
  else if a = 0x010#12 then 0xFFFF else 0

theorem resetWord_eq_zero (p : Params) {a : Addr}
    (h : a ∉ [0x002#12, 0x008#12, 0x009#12, 0x00A#12, 0x00B#12, 0x00D#12, 0x00E#12, 0x010#12]) :
    resetWord p a = 0 := by
  simp only [List.mem_cons, not_or] at h
  obtain ⟨h2, h8, h9, hA, hB, hD, hE, h10, -⟩ := h
  rw [resetWord, if_neg h2, if_neg h8, if_neg h9, if_neg hA, if_neg hB, if_neg hD, if_neg hE, if_neg h10]

/-- The addresses whose reset value is not 0 are mapped. -/
theorem resetWord_of_unmapped {p : Params} {a : Addr} (h : regAt p a = none) : resetWord p a = 0 := by
  refine resetWord_eq_zero p fun hmem => ?_
  simp only [List.mem_cons, List.not_mem_nil, or_false] at hmem
  rcases hmem with rfl | rfl | rfl | rfl | rfl | rfl | rfl | rfl <;> cases h

/-- They are single registers. -/
theorem resetWord_of_ge (p : Params) {a : Addr} (h : 0x100 ≤ a.toNat) : resetWord p a = 0 := by
  refine resetWord_eq_zero p fun hmem => ?_
  simp only [List.mem_cons, List.not_mem_nil, or_false] at hmem
  rcases hmem with rfl | rfl | rfl | rfl | rfl | rfl | rfl | rfl <;> exact absurd h (by decide)

/-- A mapped address is the one that R71 gives its register. -/
theorem eq_regAddr_of_regAt {p : Params} {a : Addr} {r : Reg} (h : regAt p a = some r) :
    a = BitVec.ofNat 12 (regAddr r) := by
  rw [← regAt_addr h, BitVec.ofNat_toNat, BitVec.setWidth_eq]

/-- After RESET a register of an array reads 0. -/
theorem replicate_getD_setWidth (n i : Nat) : ((List.replicate n (0 : Byte)).getD i 0).setWidth 16 = (0 : Word) := by
  rw [List.getD_eq_getElem?_getD, List.getElem?_replicate]
  split <;> rfl

/-- After RESET every register reads its reset value (R300). -/
theorem readReg_resetBlock {s : State} {a : Addr} {r : Reg} (h : regAt s.params a = some r) :
    readReg s.resetBlock r = resetWord s.params a := by
  have haddr := regAt_addr h
  have ha := eq_regAddr_of_regAt h
  cases r with
  | encData i | txBuf i | resData i | rxBuf i =>
    rw [resetWord_of_ge s.params (by rw [haddr, regAddr]; omega)]
    exact replicate_getD_setWidth _ i
  | status =>
    subst ha
    exact (show readReg s.resetBlock .status = State.reset.statusView from rfl).trans
      (show State.reset.statusView = 0x0010 by decide)
  | _ => subst ha; rfl

/-- An address of an array register is none of the single ones. -/
theorem ne_of_toNat_ge {a : Addr} (h : 0x100 ≤ a.toNat) {k : Addr} (hk : k.toNat < 0x100) : a ≠ k := by
  rintro rfl
  exact absurd h (Nat.not_le.2 hk)

end Sys2Proof.Machine
end

section
/-! The obligations of 20_memory and 10_state on the register space. -/

namespace Sys2Proof.Proofs
open Sys2Proof.Machine

/-- Settles O17: each of the addresses names a read-only register. -/
theorem readOnlyRegistersIgnoreWrites : Obligations.ReadOnlyRegistersIgnoreWrites := by
  unfold Obligations.ReadOnlyRegistersIgnoreWrites
  intro s a v hinv ha
  obtain ⟨⟨hlegal, -⟩, -⟩ := hinv
  have hreg : a ≠ 0x000#12 ∧ ∃ r, regAt s.params a = some r ∧ r.ReadOnly := by
    rcases ha with hsingle | ⟨hlo, hhi⟩ | ⟨hlo, hhi⟩
    · simp only [List.mem_cons, List.not_mem_nil, or_false] at hsingle
      rcases hsingle with rfl | rfl | rfl | rfl | rfl | rfl | rfl | rfl | rfl | rfl | rfl | rfl | rfl | rfl |
        rfl | rfl | rfl | rfl | rfl <;> exact ⟨by decide, _, rfl, trivial⟩
    · exact ⟨ne_of_toNat_ge (by omega) (by decide), _,
        regAt_txBuf hlegal (i := a.toNat - 0x200) (by omega) (by omega), trivial⟩
    · exact ⟨ne_of_toNat_ge (by omega) (by decide), _,
        regAt_resData hlegal (i := a.toNat - 0x300) (by omega) (by omega), trivial⟩
  obtain ⟨hcmd, r, hr, hro⟩ := hreg
  exact (runEvent_hostWrite hcmd hr v).trans (congrArg _ (writeReg_of_readOnly hro s v))

/-- Settles O18: each of the addresses names an RW register, and the stored value is cut to its width. -/
theorem writableRegistersReadBack : Obligations.WritableRegistersReadBack := by
  unfold Obligations.WritableRegistersReadBack
  intro s a v hinv
  obtain ⟨⟨hlegal, hencData, -⟩, -⟩ := hinv
  refine ⟨fun ha => ?words, fun ha => ?bytes, fun ha => ?irqEn, fun hlo hhi => ?encData⟩
  case words =>
    have hreg : a ≠ 0x000#12 ∧ ∃ r, regAt s.params a = some r ∧ r.ReadWrite ∧
        readReg (writeReg s v r) r = v := by
      simp only [List.mem_cons, List.not_mem_nil, or_false] at ha
      rcases ha with rfl | rfl | rfl <;> exact ⟨by decide, _, rfl, trivial, rfl⟩
    obtain ⟨hcmd, r, hr, hrw, hread⟩ := hreg
    obtain ⟨t, hrun, hback, hframe⟩ := hostWrite_readBack hcmd hr hrw v
    exact ⟨t, hrun, hback.trans hread, hframe⟩
  case bytes =>
    have hreg : a ≠ 0x000#12 ∧ ∃ r, regAt s.params a = some r ∧ r.ReadWrite ∧
        readReg (writeReg s v r) r = (v.setWidth 8).setWidth 16 := by
      simp only [List.mem_cons, List.not_mem_nil, or_false] at ha
      rcases ha with rfl | rfl | rfl | rfl <;> exact ⟨by decide, _, rfl, trivial, rfl⟩
    obtain ⟨hcmd, r, hr, hrw, hread⟩ := hreg
    obtain ⟨t, hrun, hback, hframe⟩ := hostWrite_readBack hcmd hr hrw v
    exact ⟨t, hrun, by rw [hback, hread, word_setWidth_toNat], hframe⟩
  case irqEn =>
    subst ha
    obtain ⟨t, hrun, hback, hframe⟩ := hostWrite_readBack (s := s) (a := 0x007#12) (by decide) rfl trivial v
    refine ⟨t, hrun, ?_, hframe⟩
    rw [hback]
    exact (BitVec.toNat_and v irqMask).trans (Nat.and_two_pow_sub_one_eq_mod v.toNat 4)
  case encData =>
    have hi : a.toNat - 0x100 < s.encData.length := by omega
    obtain ⟨t, hrun, hback, hframe⟩ := hostWrite_readBack (ne_of_toNat_ge hlo (by decide))
      (regAt_encData hlegal (i := a.toNat - 0x100) (by omega) (by omega)) trivial v
    refine ⟨t, hrun, ?_, hframe⟩
    rw [hback, ← word_setWidth_toNat]
    simp only [readReg, writeReg, List.getD_eq_getElem?_getD, List.getElem?_set_self hi, Option.getD_some]

/-- Settles O19: the two registers store the clamped value and nothing else happens. -/
theorem intervalWritesAreClamped : Obligations.IntervalWritesAreClamped := by
  unfold Obligations.IntervalWritesAreClamped
  intro s v
  exact ⟨⟨clamp v Config.quietMin Config.quietMax, clamp_toNat v _ _ (by decide),
      runEvent_hostWrite (s := s) (a := 0x008#12) (r := .quietMs) (by decide) rfl v⟩,
    clamp v Config.ifdMin Config.ifdMax, clamp_toNat v _ _ (by decide),
      runEvent_hostWrite (s := s) (a := 0x009#12) (r := .ifdMs) (by decide) rfl v⟩

/-- Settles O20: the write stores IRQ_PEND with the complement of `v`. -/
theorem irqPendWriteOneToClear : Obligations.IrqPendWriteOneToClear := by
  unfold Obligations.IrqPendWriteOneToClear
  intro s v
  refine ⟨_, runEvent_hostWrite (s := s) (a := 0x006#12) (r := .irqPend) (by decide) rfl v, fun i => ?_, rfl⟩
  rw [show (writeReg s v .irqPend).irqPend = s.irqPend &&& ~~~v from rfl, BitVec.getLsbD_and, BitVec.getLsbD_not]
  by_cases hi : i < 16
  · rw [decide_eq_true hi, Bool.true_and]
  · rw [BitVec.getLsbD_of_ge s.irqPend i (Nat.not_lt.1 hi), Bool.false_and, Bool.false_and]

/-- Settles O21: both writes are the register's own, which LISTEN switches off. -/
theorem receiveBufferHostAccess : Obligations.ReceiveBufferHostAccess := by
  unfold Obligations.ReceiveBufferHostAccess
  intro s v i hinv hi
  obtain ⟨-, -, hmax⟩ := hinv.params_bounds
  obtain ⟨⟨hlegal, -⟩, -⟩ := hinv
  have haddr : (BitVec.ofNat 12 (0x400 + i)).toNat = 0x400 + i := toNat_ofNat_of_lt (by omega)
  have hbuf := runEvent_hostWrite (ne_of_toNat_ge (by omega) (by decide)) (regAt_rxBuf hlegal hi haddr) v
  have hcnt := runEvent_hostWrite (s := s) (a := 0x01C#12) (r := .rxCnt) (by decide) rfl v
  refine ⟨fun hbt => ⟨hbuf.trans ?_, hcnt.trans ?_⟩,
    fun hbt => ⟨hbuf.trans ?_, rxCntLegal s.params v, State.Inv.rxCntLegal_toNat hmax v, hcnt.trans ?_⟩⟩
  · rw [writeReg, if_pos hbt]
  · rw [writeReg, if_pos hbt]
  · rw [writeReg, if_neg hbt]; rfl
  · rw [writeReg, if_neg hbt]

/-- Settles O14: the single registers stand in the map's table, the arrays in their windows. -/
theorem registerMapReads : Obligations.RegisterMapReads := by
  unfold Obligations.RegisterMapReads
  intro s hinv
  obtain ⟨hmax, hmin, hlen⟩ := hinv.params_bounds
  obtain ⟨⟨hlegal, hencData, htxBuf, hrxBuf, hres⟩, -⟩ := hinv
  have hentry {l : List Byte} {i : Nat} {b : Byte} (h : l[i]? = some b) :
      i < l.length ∧ ((l.getD i 0).setWidth 16).toNat = b.toNat :=
    ⟨(List.getElem?_eq_some_iff.1 h).1, by
      rw [List.getD_eq_getElem?_getD, h, Option.getD_some, byte_setWidth_toNat]⟩
  refine ⟨rfl, rfl, rfl, rfl, rfl, rfl, rfl, rfl, rfl, rfl, rfl, rfl, byte_setWidth_toNat _,
    toNat_ofNat_of_lt (by omega), toNat_ofNat_of_lt (by omega), rfl, rfl, rfl, rfl, byte_setWidth_toNat _,
    byte_setWidth_toNat _, byte_setWidth_toNat _, byte_setWidth_toNat _, rfl, rfl, byte_setWidth_toNat _,
    byte_setWidth_toNat _, byte_setWidth_toNat _, byte_setWidth_toNat _, byte_setWidth_toNat _, rfl, rfl,
    fun i b hb => ?encData, fun i b hb => ?txBuf, fun i b hb => ?resData, fun i b hb => ?rxBuf⟩ <;>
    obtain ⟨hi, hval⟩ := hentry hb
  case encData =>
    have haddr : (BitVec.ofNat 12 (0x100 + i)).toNat = 0x100 + i := toNat_ofNat_of_lt (by omega)
    rw [hostValue_of_regAt (regAt_encData hlegal (by omega) haddr)]
    exact hval
  case txBuf =>
    have haddr : (BitVec.ofNat 12 (0x200 + i)).toNat = 0x200 + i := toNat_ofNat_of_lt (by omega)
    rw [hostValue_of_regAt (regAt_txBuf hlegal (by omega) haddr)]
    exact hval
  case resData =>
    have haddr : (BitVec.ofNat 12 (0x300 + i)).toNat = 0x300 + i := toNat_ofNat_of_lt (by omega)
    rw [hostValue_of_regAt (regAt_resData hlegal (by omega) haddr)]
    exact hval
  case rxBuf =>
    have haddr : (BitVec.ofNat 12 (0x400 + i)).toNat = 0x400 + i := toNat_ofNat_of_lt (by omega)
    rw [hostValue_of_regAt (regAt_rxBuf hlegal (by omega) haddr)]
    exact hval

/-- Settles O13: a mapped address reads its register's reset value, an unmapped one 0; the addresses with another
reset value than 0 are all mapped. -/
theorem resetRegisterValues : Obligations.ResetRegisterValues := by
  unfold Obligations.ResetRegisterValues
  intro s
  have hirq : s.resetBlock.irq = State.reset.irq := rfl
  refine ⟨s.resetBlock, rfl, rfl, rfl, rfl, hirq.trans rfl, fun addr => ?_, rfl, rfl, rfl, rfl, rfl⟩
  show hostValue s.resetBlock addr = resetWord s.params addr
  cases hr : regAt s.params addr with
  | none => exact (hostValue_of_regAt_none (s := s.resetBlock) hr).trans (resetWord_of_unmapped hr).symm
  | some r => exact (hostValue_of_regAt (s := s.resetBlock) hr).trans (readReg_resetBlock hr)

end Sys2Proof.Proofs
end

section
/-! SUPPORT. The Transport events by their conditions (R194, R195), read as numbers. -/

namespace Sys2Proof.Machine

theorem txOffered_iff (s : State) : s.txOffered = true ↔ s.bt = .tx ∧ s.txIdx.toNat < s.txLen.toNat := by
  rw [State.txOffered, Bool.and_eq_true, decide_eq_true_iff, decide_eq_true_iff, BitVec.lt_def,
    byte_setWidth_toNat]

theorem txDrained_iff (s : State) : s.txDrained = true ↔ s.bt = .tx ∧ s.txIdx.toNat = s.txLen.toNat := by
  rw [State.txDrained, Bool.and_eq_true, decide_eq_true_iff, decide_eq_true_iff, ← BitVec.toNat_inj,
    byte_setWidth_toNat]

end Sys2Proof.Machine
end

section
/-! The obligations of 41_bus_timing on TRANSMIT, LISTEN, RX and the Transport events, and of 30_encoding on the frame
command bytes. -/

namespace Sys2Proof.Proofs
open Sys2Proof.Machine

/-- Settles O39: no frame, or EvalWait on a TRANSMIT that has just entered WAIT. -/
theorem transmitOutcomes : Obligations.TransmitOutcomes := by
  unfold Obligations.TransmitOutcomes
  intro s hbt
  have hidle : s = { s with bt := .idle } := by rw [← hbt]
  have hwait (hlen : s.txLen ≠ 0) :
      performTransmit (s.acceptOp 0x3) = (s.acceptOp 0x3).enterWait.evalWait := if_neg hlen
  rw [exec_transmit_accepted hbt]
  refine ⟨fun hlen => ?noFrame, fun hlen hgate => ?start, fun hlen hgate hms => ?busBusy,
    fun hlen hgate hms => ?wait⟩
  case noFrame =>
    have hperform : performTransmit (s.acceptOp 0x3) = (s.acceptOp 0x3).completeTx .invalidPayload := if_pos hlen
    rw [hperform, hidle]
    rfl
  case start =>
    rw [hwait hlen, evalWait_start (s := (s.acceptOp 0x3).enterWait) rfl hgate]
    rfl
  case busBusy =>
    have htimer : s.busyWaitMs ≤ (s.acceptOp 0x3).enterWait.btTimer := BitVec.le_zero_iff.2 hms
    rw [hwait hlen, evalWait_giveUp (s := (s.acceptOp 0x3).enterWait) rfl hgate htimer, hidle]
    rfl
  case wait =>
    have htimer : ¬ s.busyWaitMs ≤ (s.acceptOp 0x3).enterWait.btTimer := fun h => hms (BitVec.le_zero_iff.1 h)
    rw [hwait hlen, evalWait_wait (s := (s.acceptOp 0x3).enterWait) hgate htimer]
    rfl

/-- Settles O40: EvalListen on a window that has just opened, empty. -/
theorem listenOutcomes : Obligations.ListenOutcomes := by
  unfold Obligations.ListenOutcomes
  intro s hbt
  have hidle : s = { s with bt := .idle } := by rw [← hbt]
  rw [exec_listen_accepted hbt, performListen]
  refine ⟨fun hms => ?opened, fun hms => ?closed⟩
  case opened =>
    have htimer : ¬ s.listenMs ≤ (s.acceptOp 0x4).enterListen.btTimer := fun h => hms (BitVec.le_zero_iff.1 h)
    rw [evalListen_open (s := (s.acceptOp 0x4).enterListen) htimer]
    rfl
  case closed =>
    have htimer : s.listenMs ≤ (s.acceptOp 0x4).enterListen.btTimer := BitVec.le_zero_iff.2 hms
    rw [evalListen_close (s := (s.acceptOp 0x4).enterListen) rfl htimer, completeListen_windowEnd, hidle]
    rfl

/-- Settles O43: the tests of R198 to R200 in their order. -/
theorem receiveOutcomes : Obligations.ReceiveOutcomes := by
  unfold Obligations.ReceiveOutcomes
  intro s b
  have hseen (h : s.te = false) : ¬ s.te = true := by rw [h]; exact Bool.false_ne_true
  refine ⟨fun hte => ?unseen, fun hte hbt => ?outside, fun hte hbt hroom => ?stored,
    fun hte hbt hfull => ?dropped⟩ <;> rw [runEvent, State.rxEvent]
  case unseen => rw [if_pos hte]
  case outside => rw [if_neg (hseen hte), if_neg hbt]
  case stored =>
    rw [if_neg (hseen hte), if_pos hbt, State.receive, if_pos hroom]
    rfl
  case dropped =>
    rw [if_neg (hseen hte), if_pos hbt, State.receive, if_neg (Nat.not_lt.2 hfull)]
    rfl

/-- Settles O44: each event acts exactly where it is enabled. -/
theorem transportOutcomes : Obligations.TransportOutcomes := by
  unfold Obligations.TransportOutcomes
  intro s _
  refine ⟨fun b hbt hidx hb => ?accept, fun hno => ?acceptNone, fun hbt hidx => ?drain, fun hno => ?drainNone⟩ <;>
    rw [runEvent]
  case accept =>
    have hoffered := (txOffered_iff s).2 ⟨hbt, hidx⟩
    rw [State.txAcceptEvent, if_pos hoffered, txData_of_txOffered hoffered, List.getD_eq_getElem?_getD, hb,
      Option.getD_some]
  case acceptNone => rw [State.txAcceptEvent, if_neg (mt (txOffered_iff s).1 hno)]
  case drain =>
    rw [State.txDrainEvent, if_pos ((txDrained_iff s).2 ⟨hbt, hidx⟩)]
    rfl
  case drainNone => rw [State.txDrainEvent, if_neg (mt (txDrained_iff s).1 hno)]

/-- Settles O27: each row is the host's placing of its byte (log 5). -/
theorem frameCommandsPlaceTheirByte : Obligations.FrameCommandsPlaceTheirByte := by
  unfold Obligations.FrameCommandsPlaceTheirByte
  exact fun s => ⟨exec_eq .frameTakeover s, exec_eq .frameSetOutput s, exec_eq .frameReadSalinity s,
    exec_eq .frameGetVersion s, exec_eq .frameGetTemperature s⟩

end Sys2Proof.Proofs
end
